-- ==== Sys2Proof/Word.lean ====
section
/-! DEFINITION. The word types of the part's links and identifiers, and fixed-size tables of records. -/

namespace Sys2Proof

/-- One character of a link (R181). -/
abbrev Byte := BitVec 8
/-- A station port, 0 to 3. -/
abbrev Port := Fin 4
/-- A 16-bit ticket or guest number as it is encoded (section 11.6.1); 0 names no ticket. -/
abbrev TicketNo := BitVec 16
/-- A parking space, 0 to 1023 (R11). -/
abbrev SpaceNo := Fin 1024
/-- A zone, 0 to 7 (R1). -/
abbrev ZoneNo := Fin 8
/-- A logical hook, 0 to 511 (R59). -/
abbrev HookNo := Fin 512
/-- A bank of the key cabinet, 0 to 15 (R59). -/
abbrev BankNo := Fin 16
/-- A runner, 0 to 31 (R108). -/
abbrev RunnerNo := Fin 32
/-- A runner team, 0 to 3 (R108). -/
abbrev Team := Fin 4
/-- A priority level, 0 (most urgent) to 7 (R97). -/
abbrev Level := Fin 8
/-- A curb section, 0 to 3 (R142). -/
abbrev Section4 := Fin 4
/-- A forecourt bay, 0 to 7 (R142). -/
abbrev BayNo := Fin 8

/-- A physical slot of the key cabinet: 34 in each of 16 banks (R59). -/
structure Slot where
  bank : BankNo
  num  : Fin 34
deriving DecidableEq, Repr

/-- A table of exactly `n` records of one type, indexed by `Fin n`. -/
structure Table (n : Nat) (α : Type) where
  list : List α
  size : list.length = n
deriving DecidableEq, Repr

/-- The record at an index. -/
def Table.get {n : Nat} {α : Type} (t : Table n α) (i : Fin n) : α :=
  t.list.get (i.cast t.size.symm)

/-- The table with the record at one index replaced. -/
def Table.set {n : Nat} {α : Type} (t : Table n α) (i : Fin n) (x : α) : Table n α :=
  ⟨t.list.set i.val x, by simpa using t.size⟩

/-- The table with every record replaced by a function of it. -/
def Table.map {n : Nat} {α β : Type} (f : α → β) (t : Table n α) : Table n β :=
  ⟨t.list.map f, by simpa using t.size⟩

/-- The table whose record at `i` is `f i`. -/
def Table.ofFn {n : Nat} {α : Type} (f : Fin n → α) : Table n α :=
  ⟨(List.finRange n).map f, by simp⟩

/-- The table that holds one record everywhere. -/
def Table.replicate (n : Nat) {α : Type} (x : α) : Table n α :=
  ⟨List.replicate n x, by simp⟩

end Sys2Proof
end

