-- ==== Sys2Proof/Syntax.lean ====
section
/-! DEFINITION. The commands the part takes: one constructor for each row of spec/opcode_table.json. -/

namespace Sys2Proof

/-- A command of the part. A request (from `issue` to `status` but for `lineReturnHigh` and its like) is a frame
that completes on a port: its operands are the fields of its body as section 11.6.2 lays them out, at their
widths on the line, so that a value out of range can be sent. -/
inductive Instr where
  /-- POWER_ON. The operands say whether retained memory and the settings store pass their validity checks. -/
  | powerOn (retainedPasses storePasses : Bool)
  /-- RESET_LINE: the reset line is asserted. Operands as for `powerOn`. -/
  | resetLine (retainedPasses storePasses : Bool)
  | serviceTick
  | minuteEvent
  | releaseLapse (hook : HookNo)
  | removalWindowExpiry (hook : HookNo)
  | runOverdue (runner : RunnerNo)
  | runLost (runner : RunnerNo)
  | bankScanTimeout
  | hung (slot : Slot) (word : BitVec 24)
  | lifted (slot : Slot)
  | sensorFault (slot : Slot)
  /-- BANK_STATE: the bank, the presence field (bit i for slot i) and the tag words in slot order. -/
  | bankState (bank : Byte) (presence : BitVec 40) (words : List (BitVec 24))
  /-- CABINET_FRAME_RECEIVED: the bytes that complete the frame, the start byte among them when it is still to come. -/
  | cabinetFrameReceived (bytes : List Byte)
  | cabinetFrameGap
  | cabinetCommandSent
  /-- STATION_FRAME_RECEIVED: as `cabinetFrameReceived`, on a port. -/
  | stationFrameReceived (port : Port) (bytes : List Byte)
  | stationFrameGap (port : Port)
  | lineBreak (port : Port)
  | frameSent (port : Port)
  /-- REQUEST_BAD_KIND: a request frame whose kind byte is no request kind. -/
  | requestBadKind (port : Port) (kind tag : Byte)
  | issue (port : Port) (tag carClass priority : Byte) (guestRef : BitVec 16) (departureGiven : Byte)
      (offset : BitVec 16) (section_ : Byte)
  | amend (port : Port) (tag : Byte) (ticket : TicketNo) (departureAction : Byte) (offset : BitVec 16)
      (guestRefGiven : Byte) (guestRef : BitVec 16) (priority : Byte)
  | queryTicketByNumber (port : Port) (tag : Byte) (ticket : TicketNo) (startNumber : BitVec 16)
  | queryTicketByGuest (port : Port) (tag : Byte) (guestRef startNumber : BitVec 16)
  | parked (port : Port) (tag : Byte) (ticket : TicketNo) (space : BitVec 16)
  | recallByNumber (port : Port) (tag : Byte) (ticket : TicketNo) (section_ : Byte)
  | recallByGuest (port : Port) (tag : Byte) (guestRef : BitVec 16) (section_ : Byte)
  | cancel (port : Port) (tag : Byte) (ticket : TicketNo)
  | dispatchMask (port : Port) (tag levels : Byte)
  | runnerDutyOn (port : Port) (tag runner team : Byte)
  | runnerDutyOff (port : Port) (tag runner team : Byte)
  | queryRunner (port : Port) (tag runner : Byte)
  | reopen (port : Port) (tag runner : Byte)
  | staged (port : Port) (tag : Byte) (ticket : TicketNo) (bay : Byte)
  | handover (port : Port) (tag : Byte) (ticket : TicketNo)
  | returnCar (port : Port) (tag : Byte) (ticket : TicketNo)
  | bayHoldSet (port : Port) (tag bay : Byte)
  | bayHoldClear (port : Port) (tag bay : Byte)
  | keyClaim (port : Port) (tag : Byte) (hook : BitVec 16) (ticket : TicketNo)
  | releaseHook (port : Port) (tag : Byte) (hook : BitVec 16)
  | substitute (port : Port) (tag : Byte) (hook : BitVec 16)
  | retire (port : Port) (tag : Byte) (hook : BitVec 16)
  | restore (port : Port) (tag : Byte) (hook : BitVec 16)
  | cabinetDiag (port : Port) (tag bank : Byte)
  | zoneStateOpen (port : Port) (tag zone : Byte)
  | zoneStateClose (port : Port) (tag zone : Byte)
  | spaceServiceOut (port : Port) (tag : Byte) (space : BitVec 16)
  | spaceServiceReturn (port : Port) (tag : Byte) (space : BitVec 16)
  | querySpace (port : Port) (tag : Byte) (space : BitVec 16)
  | configureZone (port : Port) (tag zone : Byte) (base size : BitVec 16) (depth walk zoneClass : Byte)
      (team0 team1 team2 team3 : Byte)
  | configureZoneRemove (port : Port) (tag zone : Byte)
  | configurePort (port : Port) (tag target roles baseLevel defaultSection : Byte) (alertEnables : BitVec 16)
  | configureParams (port : Port) (tag k s window l : Byte)
  | tune (port : Port) (tag k s window l : Byte)
  | commitSetup (port : Port) (tag : Byte)
  | coldStart (port : Port) (tag : Byte)
  | clearAlert (port : Port) (tag : Byte) (flags : BitVec 16)
  | status (port : Port) (tag : Byte)
  | lineReturnHigh (port : Port)
  /-- STATION_START_BYTE: a byte taken by the port's receiver; A5h starts a frame when it is hunting. -/
  | stationStartByte (port : Port) (byte : Byte)
  /-- STATION_LENGTH_REJECT: the length byte taken by the port's receiver. -/
  | stationLengthReject (port : Port) (length : Byte)
  | cabinetStartByte (byte : Byte)
  | cabinetLengthReject (length : Byte)
  | resetLineRelease
  | powerLoss
deriving DecidableEq, Repr

end Sys2Proof
end

