-- ==== Sys2Proof/Config.lean ====
section
/-! DEFINITION. What the manual fixes as numbers, and the one value it leaves open. -/

namespace Sys2Proof.Config

/-- The most ticket records there are (R17). -/
def maxTickets : Nat := 512
/-- Where the minute counter saturates, and the largest absolute minute (R159, R27). -/
def maxMinute : Nat := 16777215
/-- Where the sequence counter saturates (R98). -/
def maxStamp : Nat := 4294967295
/-- The largest departure offset that is used; a larger one is clamped to it (R27). -/
def maxOffset : Nat := 4095
/-- The frames a port's transmit queue holds (R186). -/
def txCapacity : Nat := 16
/-- The complete frames a port's receive buffer holds (R183). -/
def rxCapacity : Nat := 2
/-- The complete frames the cabinet receive buffer holds (R188). -/
def cabinetRxCapacity : Nat := 8
/-- The ticks after which an unanswered bank scan times out (R177). -/
def scanTicks : Nat := 4
/-- The most matches a QUERY_TICKET by guest reference lists (R31). -/
def maxMatches : Nat := 8

/-- FREE VALUE (assumption 9). R183: two links may each hold a frame whose turn has come, and each is taken
"in whichever order the blocks take them". The manual gives no order; this constant has no body. -/
opaque linkChoice : Nat → Nat

end Sys2Proof.Config
end

