-- ==== Sys2Proof/Machine/State.lean ====
section
/-! DEFINITION. Everything the manual gives the part to hold, as plain data, one structure for each block of
section 2.2, and the state right after reset. -/

namespace Sys2Proof.Machine

/-- CarClass of a ticket (R17). -/
inductive CarClass where
  | standard | oversize
deriving DecidableEq, Repr

/-- ZoneClass of a zone (R1). -/
inductive ZoneClass where
  | standard | oversize | reserved
deriving DecidableEq, Repr

/-- State of a ticket (R18). -/
inductive TicketState where
  | awaitingSpace | inbound | parked | relocating | outbound | staged | returning | unconfirmed
deriving DecidableEq, Repr

/-- FormerState of an UNCONFIRMED ticket (R17, R20). -/
inductive FormerState where
  | relocating | outbound | returning
deriving DecidableEq, Repr

/-- KeyPlace of a ticket (R19). -/
inductive KeyPlace where
  | noneYet
  | onHook (hook : HookNo)
  | taken
  | atTray
  | missing
deriving DecidableEq, Repr

/-- A ticket record (R17). -/
structure Ticket where
  number       : TicketNo
  state        : TicketState
  formerState  : Option FormerState
  carClass     : CarClass
  priority     : Level
  guestRef     : Option (BitVec 16)
  departure    : Option Nat
  curbSection  : Section4
  issuePort    : Port
  arrival      : Nat
  space        : Option SpaceNo
  nextSpace    : Option SpaceNo
  key          : KeyPlace
  bay          : Option BayNo
  run          : Option RunnerNo
  prestageDone : Bool
deriving DecidableEq, Repr

/-- The Custody Table (R17, R21): its records in ascending TicketNumber, and the next-number counter. -/
structure CustodyTable where
  tickets    : List Ticket
  nextNumber : TicketNo
deriving DecidableEq, Repr

/-- A zone record without Open, as the working configuration and the store hold it (R1). A QuarterTeam entry
`none` is ANY. -/
structure ZoneRec where
  base  : Nat
  size  : Nat
  depth : Nat
  walk  : Nat
  cls   : ZoneClass
  teams : Table 4 (Option Team)
deriving DecidableEq, Repr

/-- A zone record of the table in force (R1). -/
structure Zone extends ZoneRec where
  isOpen : Bool
deriving DecidableEq, Repr

/-- A space record (R11): its Condition, with its Ticket where the Condition has one. -/
inductive SpaceRec where
  | unmapped
  | free
  | held (ticket : TicketNo)
  | occupied (ticket : TicketNo)
  | outOfService
deriving DecidableEq, Repr

/-- A lane record (R10). -/
structure Lane where
  front   : SpaceNo
  depth   : Nat
  shuffle : Option RunnerNo
deriving DecidableEq, Repr

/-- The Space Allocator (section 2.2): the zone table in force, the space map, the lane records in ascending
FrontSpace, and the allocation wait queue, oldest first (R46). -/
structure SpaceAllocator where
  zones     : Table 8 (Option Zone)
  spaces    : Table 1024 SpaceRec
  lanes     : List Lane
  waitQueue : List TicketNo
deriving DecidableEq, Repr

/-- Occupancy of a hook, with its Ticket and CarrySlot where R60 says they are present. -/
inductive Occupancy where
  | empty
  | holding (ticket : TicketNo)
  | released (ticket : TicketNo)
  | unverified
  | stray
  | awaitRehang (ticket : TicketNo) (carrySlot : Fin 34)
deriving DecidableEq, Repr

/-- A hook record (R60). -/
structure Hook where
  occ            : Occupancy
  faulty         : Bool
  retired        : Bool
  openForRemoval : Bool
  windowLeft     : Nat
deriving DecidableEq, Repr

/-- A substitution entry (R83). Entry `i` of bank `b` has index `2·b + i`. -/
structure SubstEntry where
  active   : Bool
  position : Fin 32
deriving DecidableEq, Repr

/-- The class of a decode (R65). -/
inductive DecodeClass where
  | clean | parityBit | checkBit | dataCorrected | uncorrectable
deriving DecidableEq, Repr

/-- The syndrome latch (R66). -/
structure SyndromeLatch where
  valid      : Bool
  slot       : Slot
  rawWord    : BitVec 22
  syndrome   : Nat
  parityGood : Bool
  cls        : DecodeClass
deriving DecidableEq, Repr

/-- A command waiting for the cabinet (R189, section 11.6.4). -/
inductive CabinetCommand where
  | latch (slot : Slot)
  | unlatch (slot : Slot)
  | scan (bank : BankNo)
deriving DecidableEq, Repr

/-- A link receiver (R182, R188): hunting, or assembling with the bytes taken after the start byte. -/
inductive Receiver where
  | hunting
  | assembling (bytes : List Byte)
deriving DecidableEq, Repr

/-- The Key Cabinet Interface (section 2.2). `latched` is the commanded state of slot `34·bank + num` (R62).
`lineOut` is the model's own record of the bytes of the command last sent. -/
structure KeyCabinet where
  hooks    : Table 512 Hook
  latched  : Table 544 Bool
  subst    : Table 32 SubstEntry
  latch    : SyndromeLatch
  commands : List CabinetCommand
  receiver : Receiver
  buffer   : List (List Byte)
  lineOut  : List Byte
deriving DecidableEq, Repr

/-- Kind of a recall entry or run (R97). -/
inductive EntryKind where
  | retrieve | prestage | return_
deriving DecidableEq, Repr

/-- A set of ports: bit i for port i (section 11.6.1). -/
abbrev PortSet := BitVec 4

/-- A recall entry (R97). -/
structure Entry where
  ticket      : TicketNo
  kind        : EntryKind
  level       : Level
  curbSection : Section4
  stamp       : Nat
  notify      : PortSet
deriving DecidableEq, Repr

/-- Duty of a runner (R108). -/
inductive Duty where
  | off | free | assigned | committed
deriving DecidableEq, Repr

/-- A runner record (R108). -/
structure RunnerRec where
  duty      : Duty
  team      : Team
  freeStamp : Nat
deriving DecidableEq, Repr

/-- Role of a step (R122). -/
inductive StepRole where
  | blocker | target
deriving DecidableEq, Repr

/-- StepState (R122). -/
inductive StepState where
  | waiting | released | lapsed | carried | done
deriving DecidableEq, Repr

/-- Why a release was withheld (R73, R122). -/
inductive Withheld where
  | keyAbsent | carry
deriving DecidableEq, Repr

/-- A place a car stands in or goes to (R122). -/
inductive Place where
  | space (s : SpaceNo)
  | bay (b : BayNo)
deriving DecidableEq, Repr

/-- A step record (R122). Its To is not stored: R122 reads it from the ticket or the run as they stand. -/
structure RunStep where
  ticket   : TicketNo
  role     : StepRole
  origin   : Option Place
  hook     : Option HookNo
  state    : StepState
  withheld : Option Withheld
deriving DecidableEq, Repr

/-- A run record (R121). Its Runner is its index in the table of runs. -/
structure Run where
  kind        : EntryKind
  level       : Level
  stamp       : Nat
  grantStamp  : Nat
  target      : TicketNo
  curbSection : Section4
  bay         : Option BayNo
  steps       : List RunStep
  currentStep : Nat
  committed   : Bool
  d           : Nat
  threshold   : Nat
  elapsed     : Nat
  overdue     : Bool
  lost        : Bool
  notify      : PortSet
deriving DecidableEq, Repr

/-- The Dispatch Arbiter (section 2.2): the recall queue in queue order (R99), the roster, the runs by runner,
the dispatch mask (bit i for Level i, R107) and the sequence counter (R98). -/
structure DispatchArbiter where
  queue   : List Entry
  runners : Table 32 RunnerRec
  runs    : Table 32 (Option Run)
  mask    : BitVec 8
  seq     : Nat
deriving DecidableEq, Repr

/-- Condition of a bay (R142). -/
inductive BayCondition where
  | empty | incoming | occupied | clearing
deriving DecidableEq, Repr

/-- A bay record (R142). -/
structure Bay where
  condition   : BayCondition
  occupant    : Option TicketNo
  incoming    : Option TicketNo
  guestCalled : Bool
  locked      : Bool
  entryMade   : Bool
deriving DecidableEq, Repr

/-- The Forecourt Controller (section 2.2). `marker c` is which of bays 2c and 2c + 1 the LRU marker names (R143). -/
structure Forecourt where
  bays   : Table 8 Bay
  marker : Table 4 (Fin 2)
deriving DecidableEq, Repr

/-- The Time Base (R158, R159). -/
structure TimeBase where
  phase  : Fin 4
  minute : Nat
deriving DecidableEq, Repr

/-- The eleven alert flags, in the order of the table of R161. -/
inductive AlertFlag where
  | tagUnreadable | strayKey | forcedLift | hookFault | noSpare | releaseLapsed | runOverdue | runLost
  | recoveryMismatch | spaceWait | keyMissing
deriving DecidableEq, Repr

/-- Subject of an alert (R161). -/
inductive Subject where
  | ticket (n : TicketNo)
  | hook (h : HookNo)
  | bank (b : BankNo)
  | runner (r : RunnerNo)
deriving DecidableEq, Repr

/-- An alert flag record (R161). -/
structure AlertRec where
  set     : Bool
  subject : Option Subject
  count   : Nat
deriving DecidableEq, Repr

/-- The Alert Unit (section 2.2): the flag records in the order of R161, the enable sets (bit i for flag i) and the
attention lines (`true` is asserted). -/
structure AlertUnit where
  flags     : Table 11 AlertRec
  enables   : Table 4 (BitVec 11)
  attention : Table 4 Bool
deriving DecidableEq, Repr

/-- Mode (R168). -/
inductive Mode where
  | setup | recovery | service
deriving DecidableEq, Repr

/-- ResetCause (R168). -/
inductive ResetCause where
  | powerCold | powerWarm | lineWarm | lineCold | requestCold
deriving DecidableEq, Repr

/-- A port record (R168): Roles as a set in the order PODIUM, DESK, DISPATCH, MAINT, and AlertEnables. -/
structure PortRec where
  roles          : BitVec 4
  baseLevel      : Level
  defaultSection : Section4
  alertEnables   : BitVec 11
deriving DecidableEq, Repr

/-- The parameters K, S, Window and L (R168). -/
structure Params where
  k      : Nat
  s      : Nat
  window : Nat
  l      : Nat
deriving DecidableEq, Repr

/-- A configuration, as the working configuration and the settings store hold it (R168). -/
structure Configuration where
  zones  : Table 8 (Option ZoneRec)
  ports  : Table 4 PortRec
  params : Params
deriving DecidableEq, Repr

/-- Mode Control (R168). `store` is the content of the settings store, `none` when it holds nothing valid. -/
structure ModeControl where
  mode          : Mode
  cause         : ResetCause
  commitMark    : Bool
  retainedValid : Bool
  storeValid    : Bool
  store         : Option Configuration
  working       : Configuration
  ports         : Table 4 PortRec
  params        : Params
  scanBank      : Option BankNo
  scanWaited    : Nat
  silentBanks   : Nat
deriving DecidableEq, Repr

/-- The result codes (R185). -/
inductive ResultCode where
  | ok | merged | ready | waiting
  | full | noTicket | badState | badField | badKind | notPermitted | notReady | tooLate | spaceTaken | badSpace
  | laneBusy | bayBusy | noSpare | overlap
deriving DecidableEq, Repr

/-- The first eligibility condition an entry fails (R30, R111, R112). -/
inductive BlockedReason where
  | masked | notParked | keyAbsent | laneBusy | blocker | noRoom | noBay
deriving DecidableEq, Repr

/-- The field of a ticket that names a claimed space (R50). -/
inductive ClaimField where
  | space | nextSpace
deriving DecidableEq, Repr

/-- Cause of a SPACE notice (R50). -/
inductive SpaceCause where
  | pass | displaced | dropped
deriving DecidableEq, Repr

/-- Reason of a STEP notice (R139, section 11.6.5). -/
inductive StepReason where
  | next | lift | parked | dropped | lapse | reopen | staged
deriving DecidableEq, Repr

/-- Cause of a HALT notice (R136). -/
inductive HaltCause where
  | preempted | cancelled | offDuty
deriving DecidableEq, Repr

/-- Cause of a READY notice (R151). -/
inductive ReadyCause where
  | staged | recalled
deriving DecidableEq, Repr

/-- What a RUN notice says of one step (R138). -/
structure StepItem where
  ticket : TicketNo
  role   : StepRole
  origin : Option Place
  dest   : Option Place
deriving DecidableEq, Repr

/-- The notices (R186), with the fields of their own rules. -/
inductive Notice where
  /-- RUN (R138). -/
  | run (runner : RunnerNo) (team : Team) (kind : EntryKind) (level : Level) (target : TicketNo)
      (curbSection : Section4) (bay : Option BayNo) (committed : Bool) (d threshold : Nat) (preempting : Bool)
      (steps : List StepItem) (step0 : Option StepState) (hook0 : Option HookNo) (withheld0 : Option Withheld)
  /-- STEP (R139). -/
  | step (runner : RunnerNo) (target : TicketNo) (index : Nat) (ticket : TicketNo) (state : StepState)
      (hook : Option HookNo) (dest : Option Place) (withheld : Option Withheld) (committed completed : Bool)
      (reason : StepReason)
  /-- HALT (R140). -/
  | halt (runner : RunnerNo) (target : TicketNo) (kind : EntryKind) (level : Level) (cause : HaltCause)
      (returned : Bool)
  /-- READY (R151). -/
  | ready (ticket : TicketNo) (bay : BayNo) (guestCalled : Bool) (cause : ReadyCause)
  /-- SPACE (R50). -/
  | space (ticket : TicketNo) (cause : SpaceCause) (claim : ClaimField) (space : Option SpaceNo)
      (zone : Option ZoneNo)
  /-- ALERT (R164). -/
  | alert (flag : AlertFlag) (subject : Subject) (minute : Nat)
  /-- MODE (R168). -/
  | mode (mode : Mode) (cause : ResetCause) (minute : Nat)
deriving DecidableEq, Repr

/-- One match of a QUERY_TICKET by guest reference (R31). -/
structure TicketMatch where
  ticket        : TicketNo
  state         : TicketState
  key           : KeyPlace
  recallPending : Bool
  eta           : Nat
deriving DecidableEq, Repr

/-- What QUERY_SPACE reports of a mapped space (R15). -/
structure SpaceReport where
  ticket    : Option TicketNo
  claimedAs : Option ClaimField
  zone      : ZoneNo
  isOpen    : Bool
  cls       : ZoneClass
  laneFront : SpaceNo
  position  : Nat
  depth     : Nat
  quarter   : Nat
  team      : Option Team
  shuffle   : Option RunnerNo
deriving DecidableEq, Repr

/-- What QUERY_RUNNER reports of a run (R110). -/
structure RunReport where
  kind        : EntryKind
  level       : Level
  target      : TicketNo
  curbSection : Section4
  bay         : Option BayNo
  stepCount   : Nat
  currentStep : Nat
  stepState   : Option StepState
  committed   : Bool
  d           : Nat
  threshold   : Nat
  elapsed     : Nat
  overdue     : Bool
  lost        : Bool
deriving DecidableEq, Repr

/-- The fields a response carries after its result code, by request (the owning rules). -/
inductive Payload where
  | empty
  | issue (ticket : TicketNo) (tagWord : BitVec 22) (departure : Option Nat) (curbSection : Section4)
      (space : Option SpaceNo) (zone : Option ZoneNo)
  | amend (departure : Option Nat) (guestRef : Option (BitVec 16)) (priority : Level) (prestageDone : Bool)
  | ticket (record : Ticket) (recallPending : Bool) (entryKind : Option EntryKind) (entryLevel : Option Level)
      (blocked : Option BlockedReason) (runKind : Option EntryKind) (eta : Nat)
  | matches_ (total : Nat) (list : List TicketMatch)
  | parked (ticket : TicketNo) (space : SpaceNo) (zone : Option ZoneNo) (displaced : Option TicketNo)
  | recall (ticket : TicketNo) (level : Option Level) (kind : Option EntryKind) (eta : Nat)
  | recallGuest (matchCount createdCount readyCount largestEta : Nat)
  | mask (levels : BitVec 8)
  | duty (runner : RunnerNo) (duty : Duty) (team : Team)
  | runner (duty : Duty) (team : Team) (freeStamp : Nat) (run : Option RunReport)
  | reopen (runner : RunnerNo) (currentStep : Nat) (state : StepState) (hook : Option HookNo)
  /-- A REOPEN refused BAD_STATE (R132, R185): what the run and its step do not have is absent (assumption 24). -/
  | reopenRefused (runner : RunnerNo) (currentStep : Option Nat) (state : Option StepState) (hook : Option HookNo)
      (reason : Option Withheld)
  | staged (ticket : TicketNo) (bay : BayNo) (guestCalled : Bool)
  | handover (ticket : TicketNo) (bay : Option BayNo)
  | returnCar (ticket : TicketNo) (level : Option Level)
  | bay (condition : BayCondition) (occupant : Option TicketNo) (guestCalled locked : Bool)
  | keyClaim (hook : HookNo) (ticket : TicketNo)
  | releaseHook (hook : HookNo) (windowLeft : Nat)
  | substitute (hook : HookNo) (bank : BankNo) (index : Fin 2) (spare : Slot) (carry : Option Slot)
  | retire (hook : HookNo) (index : Option (Fin 2))
  | restore (hook : HookNo) (wasRetired : Bool) (index : Option (Fin 2))
  | diag (bank : BankNo) (latch : SyndromeLatch) (entries : List SubstEntry) (hooks : List Hook)
  | zoneState (zone : ZoneNo) (isOpen : Bool)
  | space (space : SpaceNo) (record : SpaceRec) (report : Option SpaceReport)
  | walk (walk : Nat)
  | params (p : Params)
  | tune (p : Params) (stored : Bool)
  | commit (zones freeSpaces : Nat)
  | alerts (setBefore setAfter : BitVec 11) (records : List AlertRec)
  | status (mode : Mode) (cause : ResetCause) (retainedValid storeValid : Bool) (minute tickets waiting pending
      onDuty freeSpaces : Nat) (scanBank : Option BankNo) (silentBanks : Nat) (noticeOverflow : Bool)
deriving DecidableEq, Repr

/-- A frame in a transmit queue (R185, R186). Its bytes are given by `Frame.body` (Machine/Layout.lean). -/
inductive Frame where
  | response (kind tag : Byte) (result : ResultCode) (payload : Payload)
  | notice (n : Notice)
deriving DecidableEq, Repr

/-- A Station Link Unit (section 2.2, R182, R183, R186, R187). `lineLow` says that the line into the port is held
low. `lineOut` is the model's own record of the bytes of the frame last sent. -/
structure StationLink where
  receiver : Receiver
  buffer   : List (List Byte)
  tx       : List Frame
  overflow : Bool
  lineLow  : Bool
  lineOut  : List Byte
deriving DecidableEq, Repr

/-- The whole state of the part. `powered` and `held` are the supply and the reset line (section 11.7).
`choices` counts the free choices among links made so far (the model's own, assumption 9). -/
structure State where
  pending : List Instr
  ct      : CustodyTable
  sa      : SpaceAllocator
  kci     : KeyCabinet
  da      : DispatchArbiter
  fc      : Forecourt
  tb      : TimeBase
  au      : AlertUnit
  mc      : ModeControl
  slu     : Table 4 StationLink
  powered : Bool
  held    : Bool
  choices : Nat
deriving DecidableEq, Repr

/-- The faults of a step. There is none: the manual names no event that stops the part. -/
inductive Fault where
deriving DecidableEq, Repr

/-- The refusals of a step. -/
inductive Refusal where
  /-- Raised by `exec` for a row of the table that has no meaning yet; no row is left so. Safe. -/
  | notModelled (mnemonic : String)
deriving DecidableEq, Repr

/-! ## Reset values -/

/-- The Custody Table after a cold reset (R34). -/
def coldCt : CustodyTable := ⟨[], 1⟩

/-- The Space Allocator after a cold reset (R16, R58). -/
def coldSa : SpaceAllocator := ⟨Table.replicate 8 none, Table.replicate 1024 .unmapped, [], []⟩

/-- A hook after a cold reset (R81). -/
def coldHook : Hook := ⟨.empty, false, false, false, 0⟩

/-- The syndrome latch after a reset (R66): Valid clear. The other fields carry no meaning; DESIGN CHOICE zero
(assumption 4). -/
def clearLatch : SyndromeLatch := ⟨false, ⟨0, 0⟩, 0, 0, false, .parityBit⟩

/-- The 544 slots in bank order and within a bank in slot order (R82). -/
def allSlots : List Slot :=
  (List.finRange 16).flatMap fun b => (List.finRange 34).map fun n => ⟨b, n⟩

/-- The Key Cabinet Interface after a cold reset (R81, R82, R96). -/
def coldKci : KeyCabinet :=
  { hooks := Table.replicate 512 coldHook, latched := Table.replicate 544 true,
    subst := Table.replicate 32 ⟨false, 0⟩, latch := clearLatch, commands := allSlots.map .latch,
    receiver := .hunting, buffer := [], lineOut := [] }

/-- The Dispatch Arbiter after any reset (R120). -/
def resetDa : DispatchArbiter :=
  ⟨[], Table.replicate 32 ⟨.off, 0, 0⟩, Table.replicate 32 none, BitVec.allOnes 8, 0⟩

/-- An EMPTY bay (R142, R157). -/
def emptyBay : Bay := ⟨.empty, none, none, false, false, false⟩

/-- The Forecourt Controller after a cold reset (R157): every marker names the even bay. -/
def coldFc : Forecourt := ⟨Table.replicate 8 emptyBay, Table.replicate 4 0⟩

/-- A clear alert flag (R167). -/
def clearAlertRec : AlertRec := ⟨false, none, 0⟩

/-- The Alert Unit at the start of a reset, with the enable sets it takes from the ports in force (R167, R170). -/
def resetAu (enables : Table 4 (BitVec 11)) : AlertUnit :=
  ⟨Table.replicate 11 clearAlertRec, enables, Table.replicate 4 false⟩

/-- The default port records (R170): port 0 has MAINT, the others no role. -/
def defaultPorts : Table 4 PortRec :=
  (Table.replicate 4 ⟨0, 4, 0, 0⟩).set 0 ⟨8, 4, 0, 0⟩

/-- The default parameters (R170). -/
def defaultParams : Params := ⟨8, 8, 8, 0⟩

/-- The default configuration (R170). -/
def defaultConfig : Configuration := ⟨Table.replicate 8 none, defaultPorts, defaultParams⟩

/-- A link unit after a reset (R169, R183, R186), with its line as it stands. -/
def resetLink (lineLow : Bool) : StationLink := ⟨.hunting, [], [], false, lineLow, []⟩

/-- Mode Control after a power-on that finds neither retained memory nor the store valid (R169, R170). -/
def coldMc : ModeControl :=
  { mode := .setup, cause := .powerCold, commitMark := false, retainedValid := false, storeValid := false,
    store := none, working := defaultConfig, ports := defaultPorts, params := defaultParams,
    scanBank := none, scanWaited := 0, silentBanks := 0 }

/-- The part right after its first power-on: a POWER_COLD reset over an empty settings store (R169, R170), with the
MODE notice of that reset in every port's transmit queue (R168) and the latch commands of R82 waiting. -/
def State.reset : State :=
  { pending := [], ct := coldCt, sa := coldSa, kci := coldKci, da := resetDa, fc := coldFc,
    tb := ⟨0, 0⟩, au := resetAu (Table.replicate 4 0), mc := coldMc,
    slu := Table.replicate 4 { resetLink false with tx := [.notice (.mode .setup .powerCold 0)] },
    powered := true, held := false, choices := 0 }

end Sys2Proof.Machine
end

