-- ==== Sys2Proof/Machine/Codes.lean ====
section
/-! DEFINITION. The tag code (section 4.2) and the CRC of frames (R181). -/

namespace Sys2Proof.Machine

/-- The position of data bit `k` of a TicketNumber, in the order k = 0 to 15 (R63). -/
def dataPositions : List Nat := [3, 5, 6, 7, 9, 10, 11, 12, 13, 14, 15, 17, 18, 19, 20, 21]

/-- The tag word whose set positions are those listed. -/
def wordOf (positions : List Nat) : BitVec 22 :=
  positions.foldl (fun w p => w ||| BitVec.twoPow 22 p) 0

/-- The set positions of a tag word among 1 to 21. -/
def setPositions (w : BitVec 22) : List Nat := (List.range' 1 21).filter fun i => w.getLsbD i

/-- Syndrome: the exclusive-or of the position numbers of the set bits among positions 1 to 21 (R64). -/
def syndrome (w : BitVec 22) : Nat := (setPositions w).foldl Nat.xor 0

/-- Parity: good when the number of ones over all 22 positions is even (R64). -/
def parityGood (w : BitVec 22) : Bool := ((List.range 22).filter fun i => w.getLsbD i).length % 2 == 0

/-- The data bits of a TicketNumber at their positions, all other positions clear (R63). -/
def placeData (n : TicketNo) : BitVec 22 :=
  wordOf (((List.range 16).zip dataPositions).filterMap fun (k, p) => if n.getLsbD k then some p else none)

/-- The check bits that make the syndrome 0: the check bit at 2^j is bit j of the data's syndrome (R63). -/
def checkBits (d : BitVec 22) : BitVec 22 :=
  wordOf (((List.range 5).filter fun j => (syndrome d).testBit j).map fun j => 2 ^ j)

/-- The tag word of a TicketNumber (R63). -/
def encodeTag (n : TicketNo) : BitVec 22 :=
  let w := placeData n ||| checkBits (placeData n)
  if parityGood w then w else w ||| 1

/-- The 16 data bits of a word, read in the order of R63. -/
def dataBits (w : BitVec 22) : TicketNo :=
  ((List.range 16).zip dataPositions).foldl
    (fun n (k, p) => if w.getLsbD p then n ||| BitVec.twoPow 16 k else n) 0

/-- The class of a decode, from syndrome and parity (R65). -/
def decodeClass (s : Nat) (good : Bool) : DecodeClass :=
  if s = 0 then (if good then .clean else .parityBit)
  else if good then .uncorrectable
  else if s = 1 ∨ s = 2 ∨ s = 4 ∨ s = 8 ∨ s = 16 then .checkBit
  else if s ≤ 21 then .dataCorrected
  else .uncorrectable

/-- The class of a read word (R65). -/
def tagClass (w : BitVec 22) : DecodeClass := decodeClass (syndrome w) (parityGood w)

/-- The number taken from a read word, `none` when it is UNCORRECTABLE (R65). -/
def decodeTag (w : BitVec 22) : Option TicketNo :=
  match tagClass w with
  | .clean | .parityBit | .checkBit => some (dataBits w)
  | .dataCorrected => some (dataBits (w ^^^ BitVec.twoPow 22 (syndrome w)))
  | .uncorrectable => none

/-- The read word of the three-byte field: its lower 22 bits (R64). -/
def readWord (field : BitVec 24) : BitVec 22 := field.setWidth 22

/-- One bit fed into the CRC register (R181). -/
def crcBit (reg : BitVec 16) (b : Bool) : BitVec 16 :=
  if reg.getLsbD 15 != b then (reg <<< 1) ^^^ 0x1021 else reg <<< 1

/-- One byte fed into the CRC register, most significant bit first (R181). -/
def crcByte (reg : BitVec 16) (b : Byte) : BitVec 16 :=
  [7, 6, 5, 4, 3, 2, 1, 0].foldl (fun r i => crcBit r (b.getLsbD i)) reg

/-- The CRC of the length byte and the body (R181). -/
def crc16 (covered : List Byte) : BitVec 16 := covered.foldl crcByte 0xFFFF

/-- The bytes of a frame on its line (R181, R188): start byte, length, body, CRC high byte first. -/
def wireFrame (start : Byte) (body : List Byte) : List Byte :=
  let covered := BitVec.ofNat 8 body.length :: body
  let crc := crc16 covered
  start :: covered ++ [crc.extractLsb' 8 8, crc.extractLsb' 0 8]

end Sys2Proof.Machine
end

