-- ==== Sys2Proof/Machine/Work.lean ====
section
/-! DEFINITION. An event in hand: the state with the notices generated and the triggers raised so far, and the
elementary reads and writes of records. -/

namespace Sys2Proof.Machine

/-- An event in hand (section 4.6). `out` holds the notices generated so far, each with its recipients as they stand
when it is generated (R186); `passDue` and `arbDue` record that a pass (R48) or an arbitration (R113) is to be run at
the end of the event. `considered` and `preempted` belong to the arbitration in progress (R114, R116). -/
structure Work extends State where
  out        : List (PortSet × Notice) := []
  passDue    : Bool := false
  arbDue     : Bool := false
  preempted  : Bool := false
  considered : List TicketNo := []

/-- An event begun on a state: nothing generated, nothing triggered. -/
def Work.begin (s : State) : Work := { toState := s }

/-- The event carries an arbitration trigger (R113). -/
def Work.trigger (w : Work) : Work := { w with arbDue := true }

/-- As `trigger`, when a condition holds. -/
def Work.triggerIf (b : Bool) (w : Work) : Work := { w with arbDue := w.arbDue || b }

/-- The event calls for a wait-queue pass at its end (R48). -/
def Work.needPass (w : Work) : Work := { w with passDue := true }

/-! ## Sets of ports -/

/-- The set of the ports for which `f` holds. -/
def portsWhere (f : Port → Bool) : PortSet :=
  (List.finRange 4).foldl (fun ps p => if f p then ps ||| BitVec.twoPow 4 p.val else ps) 0

/-- The roles, by their bit in a set of roles (section 11.6.1). -/
inductive Role where
  | podium | desk | dispatch | maint
deriving DecidableEq, Repr

/-- The bit of a role in a set of roles. -/
def Role.bit : Role → Nat
  | .podium => 0 | .desk => 1 | .dispatch => 2 | .maint => 3

/-- The port's Roles in force include the role (R184). -/
def State.hasRole (s : State) (p : Port) (r : Role) : Bool := (s.mc.ports.get p).roles.getLsbD r.bit

/-- The ports whose roles include the role (section 4.4). -/
def State.portsWith (s : State) (r : Role) : PortSet := portsWhere fun p => s.hasRole p r

/-- The set of one port. -/
def onePort (p : Port) : PortSet := BitVec.twoPow 4 p.val

/-- A notice generated for a set of ports (R186). -/
def Work.emit (ports : PortSet) (n : Notice) (w : Work) : Work := { w with out := w.out ++ [(ports, n)] }

/-! ## Records -/

/-- The record that carries a TicketNumber, if one does (R17). -/
def State.ticket? (s : State) (n : TicketNo) : Option Ticket := s.ct.tickets.find? fun t => t.number == n

/-- The record of a ticket changed. -/
def Work.updTicket (n : TicketNo) (f : Ticket → Ticket) (w : Work) : Work :=
  { w with ct := { w.ct with tickets := w.ct.tickets.map fun t => if t.number = n then f t else t } }

/-- A space record written. -/
def Work.setSpace (sp : SpaceNo) (r : SpaceRec) (w : Work) : Work :=
  { w with sa := { w.sa with spaces := w.sa.spaces.set sp r } }

/-- The wait queue written. -/
def Work.setWaitQueue (q : List TicketNo) (w : Work) : Work :=
  { w with sa := { w.sa with waitQueue := q } }

/-- The record of a hook. -/
def State.hook (s : State) (h : HookNo) : Hook := s.kci.hooks.get h

/-- The record of a hook changed. -/
def Work.updHook (h : HookNo) (f : Hook → Hook) (w : Work) : Work :=
  { w with kci := { w.kci with hooks := w.kci.hooks.set h (f (w.kci.hooks.get h)) } }

/-- The run of a runner, if one names it (R121). -/
def State.run? (s : State) (r : RunnerNo) : Option Run := s.da.runs.get r

/-- The run of a runner written or deleted. -/
def Work.setRun (r : RunnerNo) (run : Option Run) (w : Work) : Work :=
  { w with da := { w.da with runs := w.da.runs.set r run } }

/-- The run of a runner changed, if there is one. -/
def Work.updRun (r : RunnerNo) (f : Run → Run) (w : Work) : Work := w.setRun r ((w.da.runs.get r).map f)

/-- The record of a runner changed. -/
def Work.updRunner (r : RunnerNo) (f : RunnerRec → RunnerRec) (w : Work) : Work :=
  { w with da := { w.da with runners := w.da.runners.set r (f (w.da.runners.get r)) } }

/-- The recall queue written. -/
def Work.setQueue (q : List Entry) (w : Work) : Work := { w with da := { w.da with queue := q } }

/-- The record of a bay. -/
def State.bay (s : State) (b : BayNo) : Bay := s.fc.bays.get b

/-- The record of a bay changed. -/
def Work.updBay (b : BayNo) (f : Bay → Bay) (w : Work) : Work :=
  { w with fc := { w.fc with bays := w.fc.bays.set b (f (w.fc.bays.get b)) } }

/-- The value of the sequence counter is taken, and the counter advances by 1, saturating (R98). -/
def Work.advanceSeq (w : Work) : Work :=
  { w with da := { w.da with seq := min (w.da.seq + 1) Config.maxStamp } }

/-- Mode Control changed. -/
def Work.updMc (f : ModeControl → ModeControl) (w : Work) : Work := { w with mc := f w.mc }

/-! ## Placing frames -/

/-- A link unit changed. -/
def State.updLink (p : Port) (f : StationLink → StationLink) (s : State) : State :=
  { s with slu := s.slu.set p (f (s.slu.get p)) }

/-- A response placed in a transmit queue (R186): it always finds its place. -/
def StationLink.pushResponse (f : Frame) (l : StationLink) : StationLink := { l with tx := l.tx ++ [f] }

/-- A notice placed when fewer than 15 frames are queued, and otherwise discarded with NoticeOverflow set (R186). -/
def StationLink.pushNotice (n : Notice) (l : StationLink) : StationLink :=
  if l.tx.length < Config.txCapacity - 1 then { l with tx := l.tx ++ [.notice n] } else { l with overflow := true }

/-- A notice placed in the queue of each recipient (R186). -/
def State.deliver (s : State) (m : PortSet × Notice) : State :=
  (List.finRange 4).foldl
    (fun s p => if m.1.getLsbD p.val then s.updLink p (StationLink.pushNotice m.2) else s) s

/-- The end of an event: its notices are placed in the order they were generated (R186). -/
def Work.close (w : Work) : State := w.out.foldl State.deliver w.toState

/-- The part is powered and not held in reset: only then does it take events (R160, section 11.7; assumption 6). -/
def State.live (s : State) : Bool := s.powered && !s.held

end Sys2Proof.Machine
end

