-- ==== Sys2Proof/Machine/Flags.lean ====
section
/-! DEFINITION. The Alert Unit: raises, condition flags and attention lines (section 9.2 to 9.4). -/

namespace Sys2Proof.Machine

/-- The place of a flag in the table of R161. -/
def AlertFlag.idx : AlertFlag → Fin 11
  | .tagUnreadable => 0 | .strayKey => 1 | .forcedLift => 2 | .hookFault => 3 | .noSpare => 4
  | .releaseLapsed => 5 | .runOverdue => 6 | .runLost => 7 | .recoveryMismatch => 8 | .spaceWait => 9
  | .keyMissing => 10

/-- SPACE_WAIT and KEY_MISSING are condition flags; the others are event flags (R161). -/
def AlertFlag.isCondition : AlertFlag → Bool
  | .spaceWait | .keyMissing => true
  | _ => false

/-- The record of a flag. -/
def State.alert (s : State) (f : AlertFlag) : AlertRec := s.au.flags.get f.idx

/-- The record of a flag written. -/
def Work.setAlert (f : AlertFlag) (r : AlertRec) (w : Work) : Work :=
  { w with au := { w.au with flags := w.au.flags.set f.idx r } }

/-- The set of the flags whose Set is set, bit i for flag i. -/
def AlertUnit.setMask (au : AlertUnit) : BitVec 11 :=
  (List.finRange 11).foldl (fun m i => if (au.flags.get i).set then m ||| BitVec.twoPow 11 i.val else m) 0

/-- Every attention line evaluated: asserted while the port's enable set meets the set flags (R166). -/
def Work.evalLines (w : Work) : Work :=
  { w with au := { w.au with attention := w.au.enables.map fun en => en &&& w.au.setMask != 0 } }

/-- The ports whose enable set in force includes a flag (R164). -/
def State.alertPorts (s : State) (f : AlertFlag) : PortSet :=
  portsWhere fun p => (s.au.enables.get p).getLsbD f.idx.val

/-- A flag goes from clear to set: Count 1, an ALERT notice to the ports that enable it, and the lines are evaluated
again (R162, R163, R164). -/
def Work.alertBegins (f : AlertFlag) (sub : Subject) (w : Work) : Work :=
  (w.setAlert f ⟨true, some sub, 1⟩).emit (w.alertPorts f) (.alert f sub w.tb.minute) |>.evalLines

/-- A cause taken while the flag is set: the subject is replaced and Count rises, saturating at 255 (R162, R163). -/
def Work.alertCounts (f : AlertFlag) (sub : Subject) (w : Work) : Work :=
  w.setAlert f { w.alert f with subject := some sub, count := min 255 ((w.alert f).count + 1) }

/-- An event flag raised with a subject (R162). -/
def Work.raise (f : AlertFlag) (sub : Subject) (w : Work) : Work :=
  if (w.alert f).set then w.alertCounts f sub else w.alertBegins f sub

/-- A condition flag evaluated after a change (R163): `holds` says whether its condition holds, `sub` is the ticket of
the change and `cause` says whether the change was a cause. -/
def Work.evalCondition (f : AlertFlag) (holds : Bool) (sub : TicketNo) (cause : Bool) (w : Work) : Work :=
  match (w.alert f).set, holds with
  | false, true => w.alertBegins f (.ticket sub)
  | true, true => if cause then w.alertCounts f (.ticket sub) else w
  | true, false => (w.setAlert f clearAlertRec).evalLines
  | false, false => w

/-- Some ticket record has KeyPlace MISSING (R19). -/
def State.anyMissing (s : State) : Bool := s.ct.tickets.any fun t => t.key == .missing

/-- KEY_MISSING evaluated again (R19, R163). -/
def Work.evalKeyMissing (n : TicketNo) (cause : Bool) (w : Work) : Work :=
  w.evalCondition .keyMissing w.anyMissing n cause

/-- SPACE_WAIT evaluated again (R46, R163). -/
def Work.evalSpaceWait (n : TicketNo) (cause : Bool) (w : Work) : Work :=
  w.evalCondition .spaceWait (!w.sa.waitQueue.isEmpty) n cause

end Sys2Proof.Machine
end

