-- ==== Sys2Proof/Machine/Layout.lean ====
section
/-! DEFINITION. The byte layouts of section 11.6: field encodings, request bodies, responses, notices and cabinet
commands. -/

namespace Sys2Proof.Machine

/-! ## Fields (section 11.6.1) -/

/-- A two-byte field, high byte first. -/
def be16 (x : BitVec 16) : List Byte := [x.extractLsb' 8 8, x.extractLsb' 0 8]

/-- The two-byte field of two bytes. -/
def word16 (hi lo : Byte) : BitVec 16 := hi ++ lo

/-- The three-byte field of three bytes. -/
def word24 (a b c : Byte) : BitVec 24 := (a ++ b) ++ c

/-- A number in one byte. -/
def nat8 (n : Nat) : List Byte := [BitVec.ofNat 8 n]

/-- A number in two bytes. -/
def nat16 (n : Nat) : List Byte := be16 (BitVec.ofNat 16 n)

/-- A number in four bytes. -/
def nat32 (n : Nat) : List Byte := nat16 (n / 65536) ++ nat16 n

/-- A one-byte field, FFh when absent. -/
def opt8 (x : Option Nat) : List Byte := nat8 (x.getD 0xFF)

/-- A two-byte field, FFFFh when absent. -/
def opt16 (x : Option Nat) : List Byte := nat16 (x.getD 0xFFFF)

/-- A minute, FFFFFFFFh when absent. -/
def optMinute (x : Option Nat) : List Byte := nat32 (x.getD 0xFFFFFFFF)

/-- A TicketNumber or GuestRef, 0000h when absent. -/
def optTicket (x : Option TicketNo) : List Byte := be16 (x.getD 0)

/-- A flag. -/
def flagByte (b : Bool) : List Byte := nat8 (if b then 1 else 0)

/-- A three-byte field, high byte first. -/
def be24 (w : BitVec 24) : List Byte := [w.extractLsb' 16 8, w.extractLsb' 8 8, w.extractLsb' 0 8]

/-- A tag word in three bytes, its top two bits zero. -/
def tagBytes (w : BitVec 22) : List Byte := be24 (w.setWidth 24)

/-- A slot: bank, then slot. -/
def slotBytes (sl : Slot) : List Byte := nat8 sl.bank.val ++ nat8 sl.num.val

/-- A place: a space, or 8000h with a bay. -/
def Place.num : Place → Nat
  | .space s => s.val
  | .bay b => 0x8000 + b.val

/-- A place field. -/
def placeBytes (p : Option Place) : List Byte := opt16 (p.map Place.num)

/-- A hook field. -/
def hookBytes (h : Option HookNo) : List Byte := opt16 (h.map (·.val))

/-- A space field. -/
def spaceBytes (s : Option SpaceNo) : List Byte := opt16 (s.map (·.val))

/-- A set of alert flags. -/
def flagSetBytes (m : BitVec 11) : List Byte := be16 (m.setWidth 16)

/-! ## Enumerations, first value 0 -/

def CarClass.num : CarClass → Nat
  | .standard => 0 | .oversize => 1
def ZoneClass.num : ZoneClass → Nat
  | .standard => 0 | .oversize => 1 | .reserved => 2
def TicketState.num : TicketState → Nat
  | .awaitingSpace => 0 | .inbound => 1 | .parked => 2 | .relocating => 3 | .outbound => 4 | .staged => 5
  | .returning => 6 | .unconfirmed => 7
/-- In the order of the values R17 gives FormerState. -/
def FormerState.num : FormerState → Nat
  | .relocating => 0 | .outbound => 1 | .returning => 2
def KeyPlace.num : KeyPlace → Nat
  | .noneYet => 0 | .onHook _ => 1 | .taken => 2 | .atTray => 3 | .missing => 4
def KeyPlace.hook? : KeyPlace → Option HookNo
  | .onHook h => some h
  | _ => none
def EntryKind.num : EntryKind → Nat
  | .retrieve => 0 | .prestage => 1 | .return_ => 2
def Duty.num : Duty → Nat
  | .off => 0 | .free => 1 | .assigned => 2 | .committed => 3
def StepRole.num : StepRole → Nat
  | .blocker => 0 | .target => 1
def StepState.num : StepState → Nat
  | .waiting => 0 | .released => 1 | .lapsed => 2 | .carried => 3 | .done => 4
def Withheld.num : Withheld → Nat
  | .keyAbsent => 0 | .carry => 1
def StepReason.num : StepReason → Nat
  | .next => 0 | .lift => 1 | .parked => 2 | .dropped => 3 | .lapse => 4 | .reopen => 5 | .staged => 6
def HaltCause.num : HaltCause → Nat
  | .preempted => 0 | .cancelled => 1 | .offDuty => 2
def ReadyCause.num : ReadyCause → Nat
  | .staged => 0 | .recalled => 1
def SpaceCause.num : SpaceCause → Nat
  | .pass => 0 | .displaced => 1 | .dropped => 2
def ClaimField.num : ClaimField → Nat
  | .space => 0 | .nextSpace => 1
def BlockedReason.num : BlockedReason → Nat
  | .masked => 0 | .notParked => 1 | .keyAbsent => 2 | .laneBusy => 3 | .blocker => 4 | .noRoom => 5 | .noBay => 6
def Mode.num : Mode → Nat
  | .setup => 0 | .recovery => 1 | .service => 2
def ResetCause.num : ResetCause → Nat
  | .powerCold => 0 | .powerWarm => 1 | .lineWarm => 2 | .lineCold => 3 | .requestCold => 4
def BayCondition.num : BayCondition → Nat
  | .empty => 0 | .incoming => 1 | .occupied => 2 | .clearing => 3
def Occupancy.num : Occupancy → Nat
  | .empty => 0 | .holding _ => 1 | .released _ => 2 | .unverified => 3 | .stray => 4 | .awaitRehang _ _ => 5
def SpaceRec.num : SpaceRec → Nat
  | .unmapped => 0 | .free => 1 | .held _ => 2 | .occupied _ => 3 | .outOfService => 4
/-- In the order of the values R66 gives the latch. -/
def DecodeClass.num : DecodeClass → Nat
  | .parityBit => 0 | .checkBit => 1 | .dataCorrected => 2 | .uncorrectable => 3 | .clean => 0xFF
def ResultCode.code : ResultCode → Byte
  | .ok => 0x00 | .merged => 0x01 | .ready => 0x02 | .waiting => 0x03
  | .full => 0x10 | .noTicket => 0x11 | .badState => 0x12 | .badField => 0x13 | .badKind => 0x14
  | .notPermitted => 0x15 | .notReady => 0x16 | .tooLate => 0x17 | .spaceTaken => 0x18 | .badSpace => 0x19
  | .laneBusy => 0x1A | .bayBusy => 0x1B | .noSpare => 0x1C | .overlap => 0x1D

/-- An alert subject: its kind, then its value; FFh and FFFFh when absent. -/
def subjectBytes : Option Subject → List Byte
  | none => nat8 0xFF ++ nat16 0xFFFF
  | some (.ticket n) => nat8 0 ++ be16 n
  | some (.hook h) => nat8 1 ++ nat16 h.val
  | some (.bank b) => nat8 2 ++ nat16 b.val
  | some (.runner r) => nat8 3 ++ nat16 r.val

/-! ## Notices (section 11.6.5) -/

/-- The kind byte of a notice (R186). -/
def Notice.kind : Notice → Byte
  | .run .. => 0xA0 | .step .. => 0xA1 | .halt .. => 0xA2 | .ready .. => 0xA3 | .space .. => 0xA4
  | .alert .. => 0xA5 | .mode .. => 0xA6

/-- One step of a RUN notice. -/
def StepItem.bytes (i : StepItem) : List Byte :=
  be16 i.ticket ++ nat8 i.role.num ++ placeBytes i.origin ++ placeBytes i.dest

/-- The fields of a notice after its tag. -/
def Notice.fields : Notice → List Byte
  | .run r tm k lv t c b cm d th pre steps st0 h0 x0 =>
    nat8 r.val ++ nat8 tm.val ++ nat8 k.num ++ nat8 lv.val ++ be16 t ++ nat8 c.val ++ opt8 (b.map (·.val)) ++
      flagByte cm ++ nat16 d ++ nat8 th ++ flagByte pre ++ nat8 steps.length ++ steps.flatMap StepItem.bytes ++
      opt8 (st0.map StepState.num) ++ hookBytes h0 ++ opt8 (x0.map Withheld.num)
  | .step r t i n st h dst x cm cp re =>
    nat8 r.val ++ be16 t ++ nat8 i ++ be16 n ++ nat8 st.num ++ hookBytes h ++ placeBytes dst ++
      opt8 (x.map Withheld.num) ++ flagByte cm ++ flagByte cp ++ nat8 re.num
  | .halt r t k lv c ret => nat8 r.val ++ be16 t ++ nat8 k.num ++ nat8 lv.val ++ nat8 c.num ++ flagByte ret
  | .ready n b g c => be16 n ++ nat8 b.val ++ nat8 (b.val / 2) ++ flagByte g ++ nat8 c.num
  | .space n c f sp z => be16 n ++ nat8 c.num ++ nat8 f.num ++ spaceBytes sp ++ opt8 (z.map (·.val))
  | .alert f sub m =>
    nat8 f.idx.val ++ nat8 (if f.isCondition then 1 else 0) ++ subjectBytes (some sub) ++ nat32 m
  | .mode m c mi => nat8 m.num ++ nat8 c.num ++ nat32 mi

/-! ## Responses (the owning rules, section 11.6.3; assumption 10) -/

/-- The ticket record: 28 bytes (section 11.6.3). -/
def Ticket.bytes (t : Ticket) : List Byte :=
  be16 t.number ++ nat8 t.state.num ++ opt8 (t.formerState.map FormerState.num) ++ nat8 t.carClass.num ++
    nat8 t.priority.val ++ optTicket t.guestRef ++ optMinute t.departure ++ nat8 t.curbSection.val ++
    nat8 t.issuePort.val ++ nat32 t.arrival ++ spaceBytes t.space ++ spaceBytes t.nextSpace ++ nat8 t.key.num ++
    hookBytes t.key.hook? ++ opt8 (t.bay.map (·.val)) ++ opt8 (t.run.map (·.val)) ++ flagByte t.prestageDone

/-- One match of the guest-reference list: 6 bytes. -/
def TicketMatch.bytes (m : TicketMatch) : List Byte :=
  be16 m.ticket ++ nat8 m.state.num ++ nat8 m.key.num ++ flagByte m.recallPending ++ nat8 m.eta

/-- The fields of QUERY_SPACE after Condition (R15). -/
def SpaceReport.bytes (r : SpaceReport) : List Byte :=
  optTicket r.ticket ++ opt8 (r.claimedAs.map ClaimField.num) ++ nat8 r.zone.val ++ flagByte r.isOpen ++
    nat8 r.cls.num ++ nat16 r.laneFront.val ++ nat8 r.position ++ nat8 r.depth ++ nat8 r.quarter ++
    opt8 (r.team.map (·.val)) ++ opt8 (r.shuffle.map (·.val))

/-- The fields of QUERY_RUNNER for a run (R110). -/
def RunReport.bytes (r : RunReport) : List Byte :=
  nat8 r.kind.num ++ nat8 r.level.val ++ be16 r.target ++ nat8 r.curbSection.val ++ opt8 (r.bay.map (·.val)) ++
    nat8 r.stepCount ++ nat8 r.currentStep ++ opt8 (r.stepState.map StepState.num) ++ flagByte r.committed ++
    nat16 r.d ++ nat8 r.threshold ++ nat8 r.elapsed ++ flagByte r.overdue ++ flagByte r.lost

/-- One hook of CABINET_DIAG: one byte (section 11.6.3). -/
def Hook.diagByte (k : Hook) : List Byte :=
  let bit (b : Bool) (n : Nat) : Nat := if b then n else 0
  nat8 (k.occ.num + bit k.faulty 8 + bit k.retired 16 + bit k.openForRemoval 32 +
    bit (match k.occ with | .awaitRehang _ _ => true | _ => false) 64)

/-- The syndrome latch in CABINET_DIAG, in the order of R66. -/
def SyndromeLatch.bytes (l : SyndromeLatch) : List Byte :=
  flagByte l.valid ++ slotBytes l.slot ++ tagBytes l.rawWord ++ nat8 l.syndrome ++ flagByte l.parityGood ++
    nat8 l.cls.num

/-- The parameters in the order of R168. -/
def Params.bytes (p : Params) : List Byte := nat8 p.k ++ nat8 p.s ++ nat8 p.window ++ nat8 p.l

/-- The fields of a response after its result code. -/
def Payload.bytes : Payload → List Byte
  | .empty => []
  | .issue n w d c sp z =>
    be16 n ++ tagBytes w ++ optMinute d ++ nat8 c.val ++ spaceBytes sp ++ opt8 (z.map (·.val))
  | .amend d g p pre => optMinute d ++ optTicket g ++ nat8 p.val ++ flagByte pre
  | .ticket t rp ek el br rk eta =>
    t.bytes ++ flagByte rp ++ opt8 (ek.map EntryKind.num) ++ opt8 (el.map (·.val)) ++
      opt8 (br.map BlockedReason.num) ++ opt8 (rk.map EntryKind.num) ++ nat8 eta
  | .matches_ total ms => nat16 total ++ nat8 ms.length ++ ms.flatMap TicketMatch.bytes
  | .parked n sp z u => be16 n ++ nat16 sp.val ++ opt8 (z.map (·.val)) ++ optTicket u
  | .recall n lv k eta => be16 n ++ opt8 (lv.map (·.val)) ++ opt8 (k.map EntryKind.num) ++ nat8 eta
  | .recallGuest m c r eta => nat16 m ++ nat16 c ++ nat16 r ++ nat8 eta
  | .mask m => [m]
  | .duty r d tm => nat8 r.val ++ nat8 d.num ++ nat8 tm.val
  | .runner d tm fs run =>
    nat8 d.num ++ nat8 tm.val ++ nat32 fs ++ (match run with | some r => r.bytes | none => [])
  | .reopen r i st h => nat8 r.val ++ nat8 i ++ nat8 st.num ++ hookBytes h
  | .reopenRefused r i st h x =>
    nat8 r.val ++ opt8 i ++ opt8 (st.map StepState.num) ++ hookBytes h ++ opt8 (x.map Withheld.num)
  | .staged n b g => be16 n ++ nat8 b.val ++ nat8 (b.val / 2) ++ flagByte g
  | .handover n b => be16 n ++ opt8 (b.map (·.val))
  | .returnCar n lv => be16 n ++ opt8 (lv.map (·.val))
  | .bay c o g l => nat8 c.num ++ optTicket o ++ flagByte g ++ flagByte l
  | .keyClaim h n => nat16 h.val ++ be16 n
  | .releaseHook h wl => nat16 h.val ++ nat8 wl
  | .substitute h b i sp c =>
    nat16 h.val ++ nat8 b.val ++ nat8 i.val ++ slotBytes sp ++ (match c with | some x => slotBytes x | none => [])
  | .retire h i => nat16 h.val ++ opt8 (i.map (·.val))
  | .restore h was i => nat16 h.val ++ flagByte was ++ opt8 (i.map (·.val))
  | .diag b l es hs =>
    nat8 b.val ++ l.bytes ++
      es.flatMap (fun e => flagByte e.active ++ opt8 (if e.active then some e.position.val else none)) ++
      hs.flatMap Hook.diagByte
  | .zoneState z o => nat8 z.val ++ flagByte o
  | .space sp r rep => nat16 sp.val ++ nat8 r.num ++ (match rep with | some x => x.bytes | none => [])
  | .walk w => nat8 w
  | .params p => p.bytes
  | .tune p st => p.bytes ++ flagByte st
  | .commit z f => nat8 z ++ nat16 f
  | .alerts a b rs =>
    flagSetBytes a ++ flagSetBytes b ++ rs.flatMap fun r => subjectBytes r.subject ++ nat8 r.count
  | .status m c rv sv mi t wt p od fs sb si ov =>
    nat8 m.num ++ nat8 c.num ++ flagByte rv ++ flagByte sv ++ nat32 mi ++ nat16 t ++ nat16 wt ++ nat16 p ++ nat8 od ++
      nat16 fs ++ opt8 (sb.map (·.val)) ++ nat8 si ++ flagByte ov

/-- The body of a frame sent to a station (R185, R186). -/
def Frame.body : Frame → List Byte
  | .response k tag r p => [k, tag, r.code] ++ p.bytes
  | .notice n => [n.kind, 0] ++ n.fields

/-! ## Cabinet messages (section 11.6.4) -/

/-- The body of a command to the cabinet. -/
def CabinetCommand.body : CabinetCommand → List Byte
  | .latch sl => [0x01] ++ slotBytes sl
  | .unlatch sl => [0x02] ++ slotBytes sl
  | .scan b => [0x03] ++ nat8 b.val

/-- The presence field of BANK_STATE in five bytes, high byte first. -/
def presenceBytes (p : BitVec 40) : List Byte := [4, 3, 2, 1, 0].map fun i => p.extractLsb' (8 * i) 8

/-- The body of a message from the cabinet, for the commands that stand for one. -/
def cabinetBody : Instr → List Byte
  | .hung sl w => [0x81] ++ slotBytes sl ++ be24 w
  | .lifted sl => [0x82] ++ slotBytes sl
  | .sensorFault sl => [0x83] ++ slotBytes sl
  | .bankState b p ws => [0x84, b] ++ presenceBytes p ++ ws.flatMap be24
  | _ => []

/-! ## Request bodies (section 11.6.2) -/

/-- The body of a request frame, for the commands that stand for one. -/
def requestBody : Instr → List Byte
  | .requestBadKind _ k tag => [k, tag]
  | .issue _ tag cc p g dg o c => [0x01, tag, cc, p] ++ be16 g ++ [dg] ++ be16 o ++ [c]
  | .parked _ tag n sp => [0x02, tag] ++ be16 n ++ be16 sp
  | .amend _ tag n a o gg g p => [0x03, tag] ++ be16 n ++ [a] ++ be16 o ++ [gg] ++ be16 g ++ [p]
  | .queryTicketByNumber _ tag n s => [0x04, tag, 0] ++ be16 n ++ be16 s
  | .queryTicketByGuest _ tag g s => [0x04, tag, 1] ++ be16 g ++ be16 s
  | .recallByNumber _ tag n c => [0x05, tag, 0] ++ be16 n ++ [c]
  | .recallByGuest _ tag g c => [0x05, tag, 1] ++ be16 g ++ [c]
  | .cancel _ tag n => [0x06, tag] ++ be16 n
  | .staged _ tag n b => [0x07, tag] ++ be16 n ++ [b]
  | .handover _ tag n => [0x08, tag] ++ be16 n
  | .returnCar _ tag n => [0x09, tag] ++ be16 n
  | .bayHoldSet _ tag b => [0x0A, tag, b, 0]
  | .bayHoldClear _ tag b => [0x0A, tag, b, 1]
  | .runnerDutyOn _ tag r tm => [0x0B, tag, r, 0, tm]
  | .runnerDutyOff _ tag r tm => [0x0B, tag, r, 1, tm]
  | .reopen _ tag r => [0x0C, tag, r]
  | .dispatchMask _ tag m => [0x0D, tag, m]
  | .queryRunner _ tag r => [0x0E, tag, r]
  | .keyClaim _ tag h n => [0x0F, tag] ++ be16 h ++ be16 n
  | .releaseHook _ tag h => [0x10, tag] ++ be16 h
  | .substitute _ tag h => [0x11, tag] ++ be16 h
  | .retire _ tag h => [0x12, tag] ++ be16 h
  | .restore _ tag h => [0x13, tag] ++ be16 h
  | .cabinetDiag _ tag b => [0x14, tag, b]
  | .zoneStateOpen _ tag z => [0x15, tag, z, 0]
  | .zoneStateClose _ tag z => [0x15, tag, z, 1]
  | .spaceServiceOut _ tag sp => [0x16, tag] ++ be16 sp ++ [0]
  | .spaceServiceReturn _ tag sp => [0x16, tag] ++ be16 sp ++ [1]
  | .querySpace _ tag sp => [0x17, tag] ++ be16 sp
  | .configureZone _ tag z b sz d wk c t0 t1 t2 t3 =>
    [0x18, tag, 0, z] ++ be16 b ++ be16 sz ++ [d, wk, c, t0, t1, t2, t3]
  | .configureZoneRemove _ tag z => [0x18, tag, 1, z]
  | .configurePort _ tag q rs bl ds ae => [0x18, tag, 2, q, rs, bl, ds] ++ be16 ae
  | .configureParams _ tag k s w l => [0x18, tag, 3, k, s, w, l]
  | .tune _ tag k s w l => [0x19, tag, k, s, w, l]
  | .commitSetup _ tag => [0x1A, tag]
  | .coldStart _ tag => [0x1B, tag]
  | .clearAlert _ tag f => [0x1C, tag] ++ be16 f
  | .status _ tag => [0x1D, tag]
  | _ => []

end Sys2Proof.Machine
end

