-- ==== Sys2Proof/Machine/Ops.lean ====
section
/-! DEFINITION. The shared operations on geometry, claims, hooks, latches and keys (chapters 1, 3 and 4). -/

namespace Sys2Proof.Machine

/-! ## Geometry -/

/-- The zone whose window contains a space (R1, R3). -/
def State.zoneOf? (s : State) (sp : SpaceNo) : Option (ZoneNo × Zone) :=
  (List.finRange 8).findSome? fun z =>
    match s.sa.zones.get z with
    | some zn => if zn.base ≤ sp.val ∧ sp.val < zn.base + zn.size then some (z, zn) else none
    | none => none

/-- The number of the zone of a space. -/
def State.zoneNo? (s : State) (sp : SpaceNo) : Option ZoneNo := (s.zoneOf? sp).map (·.1)

/-- The spaces of a lane, from the aisle inward (R8). -/
def Lane.spaces (l : Lane) : List SpaceNo := (List.range l.depth).map fun i => Fin.ofNat 1024 (l.front.val + i)

/-- The lane of a space (R8). -/
def State.laneOf? (s : State) (sp : SpaceNo) : Option Lane :=
  s.sa.lanes.find? fun l => l.front.val ≤ sp.val && sp.val < l.front.val + l.depth

/-- The FrontSpace of the lane of a space (R8). -/
def State.laneFront? (s : State) (sp : SpaceNo) : Option SpaceNo := (s.laneOf? sp).map (·.front)

/-- The spaces in front of a space in its lane, front first (R8). -/
def State.inFront (s : State) (sp : SpaceNo) : List SpaceNo :=
  match s.laneOf? sp with
  | some l => l.spaces.filter fun x => x.val < sp.val
  | none => []

/-- The spaces deeper than a space in its lane (R8). -/
def State.deeper (s : State) (sp : SpaceNo) : List SpaceNo :=
  match s.laneOf? sp with
  | some l => l.spaces.filter fun x => sp.val < x.val
  | none => []

/-- The record of a space. -/
def State.spaceRec (s : State) (sp : SpaceNo) : SpaceRec := s.sa.spaces.get sp

/-- The ticket recorded in a space (R11). -/
def SpaceRec.ticket? : SpaceRec → Option TicketNo
  | .held t | .occupied t => some t
  | _ => none

/-- The ticket of an OCCUPIED space. -/
def SpaceRec.occupant? : SpaceRec → Option TicketNo
  | .occupied t => some t
  | _ => none

/-- The ticket of a HELD space. -/
def SpaceRec.holder? : SpaceRec → Option TicketNo
  | .held t => some t
  | _ => none

/-- A zone class is admissible for a car class and priority (R6). -/
def admissible (z : ZoneClass) (c : CarClass) (p : Level) : Bool :=
  match z with
  | .standard => c == .standard
  | .oversize => true
  | .reserved => p == 0

/-- The quarter of a space in its zone (R7). -/
def Zone.quarter (z : Zone) (sp : SpaceNo) : Nat := (sp.val - z.base) / (z.size / 4)

/-- The preferred team of a space; `none` is ANY (R7). -/
def Zone.preferredTeam (z : Zone) (sp : SpaceNo) : Option Team := z.teams.get (Fin.ofNat 4 (z.quarter sp))

/-- The count of spaces whose Condition is FREE (R11). -/
def State.freeSpaces (s : State) : Nat := (s.sa.spaces.list.filter fun r => r == .free).length

/-! ## Claims -/

/-- The space a ticket names in a field. -/
def ClaimField.read (f : ClaimField) (t : Ticket) : Option SpaceNo :=
  match f with
  | .space => t.space
  | .nextSpace => t.nextSpace

/-- A ticket with a claim field written. -/
def ClaimField.write (f : ClaimField) (sp : Option SpaceNo) (t : Ticket) : Ticket :=
  match f with
  | .space => { t with space := sp }
  | .nextSpace => { t with nextSpace := sp }

/-- The field in which a ticket names a space, if it names it (R43). -/
def Ticket.claimOf? (t : Ticket) (sp : SpaceNo) : Option ClaimField :=
  if t.space = some sp then some .space else if t.nextSpace = some sp then some .nextSpace else none

/-- A hold: the space becomes HELD with the ticket, and the ticket's field names it (R41). -/
def Work.hold (n : TicketNo) (f : ClaimField) (sp : SpaceNo) (w : Work) : Work :=
  (w.setSpace sp (.held n)).updTicket n (f.write (some sp))

/-- A claim released: the space becomes FREE, the field becomes absent, and a pass and an arbitration are due
(R45, R48, R113). -/
def Work.releaseClaim (n : TicketNo) (f : ClaimField) (w : Work) : Work :=
  match (w.ticket? n).bind f.read with
  | some sp => ((w.setSpace sp .free).updTicket n (f.write none)).needPass.trigger
  | none => w

/-! ## Hooks and slots -/

/-- The bank of a hook (R59). -/
def hookBank (h : HookNo) : BankNo := ⟨h.val / 32, by omega⟩
/-- The position of a hook in its bank (R59). -/
def hookPos (h : HookNo) : Fin 32 := ⟨h.val % 32, by omega⟩
/-- The hook at a position of a bank (R59). -/
def hookAt (b : BankNo) (p : Fin 32) : HookNo := ⟨b.val * 32 + p.val, by omega⟩
/-- The primary slot of a hook (R59). -/
def primarySlot (h : HookNo) : Slot := ⟨hookBank h, ⟨(hookPos h).val, by omega⟩⟩
/-- The spare slot of an entry (R83). -/
def spareSlot (b : BankNo) (i : Fin 2) : Slot := ⟨b, ⟨32 + i.val, by omega⟩⟩
/-- The index of an entry in the substitution table. -/
def entryIdx (b : BankNo) (i : Fin 2) : Fin 32 := ⟨b.val * 2 + i.val, by omega⟩
/-- The index of a slot among the commanded latch states. -/
def slotIdx (sl : Slot) : Fin 544 := ⟨sl.bank.val * 34 + sl.num.val, by omega⟩

/-- The substitution entry of a bank and index (R83). -/
def State.entry (s : State) (b : BankNo) (i : Fin 2) : SubstEntry := s.kci.subst.get (entryIdx b i)

/-- The index of the Active entry that maps a hook (R59, R86). -/
def State.activeEntry? (s : State) (h : HookNo) : Option (Fin 2) :=
  (List.finRange 2).find? fun i => (s.entry (hookBank h) i).active && (s.entry (hookBank h) i).position == hookPos h

/-- The slot a hook maps to (R59). -/
def State.hookSlot (s : State) (h : HookNo) : Slot :=
  match s.activeEntry? h with
  | some i => spareSlot (hookBank h) i
  | none => primarySlot h

/-- What a slot belongs to (R84). -/
inductive SlotOwner where
  | carrySlot (h : HookNo)
  | carrySpare (h : HookNo)
  | hook (h : HookNo)
  | unmapped
deriving DecidableEq, Repr

/-- A hook is in AWAIT_REHANG with the given CarrySlot number. -/
def Occupancy.carries (o : Occupancy) (n : Fin 34) : Bool :=
  match o with
  | .awaitRehang _ c => c == n
  | _ => false

/-- A hook is in AWAIT_REHANG. -/
def Occupancy.isCarry : Occupancy → Bool
  | .awaitRehang _ _ => true
  | _ => false

/-- The table of R84: the first row that fits a slot. -/
def State.slotOwner (s : State) (sl : Slot) : SlotOwner :=
  match (List.finRange 32).find? fun p => (s.hook (hookAt sl.bank p)).occ.carries sl.num with
  | some p => .carrySlot (hookAt sl.bank p)
  | none =>
    if hn : sl.num.val < 32 then
      let h := hookAt sl.bank ⟨sl.num.val, hn⟩
      if (s.activeEntry? h).isSome then .unmapped else .hook h
    else
      let e := s.entry sl.bank ⟨sl.num.val - 32, by omega⟩
      let h := hookAt sl.bank e.position
      if e.active then (if (s.hook h).occ.isCarry then .carrySpare h else .hook h) else .unmapped

/-- The commanded latch state that R62 gives a slot: `true` is latched. -/
def State.wantLatched (s : State) (sl : Slot) : Bool :=
  match s.slotOwner sl with
  | .carrySlot _ | .carrySpare _ => false
  | .hook h =>
    match (s.hook h).occ with
    | .released _ => false
    | _ => !(s.hook h).openForRemoval
  | .unmapped => true

/-- The slot of a waiting latch command. -/
def CabinetCommand.slot? : CabinetCommand → Option Slot
  | .latch sl | .unlatch sl => some sl
  | .scan _ => none

/-- A latch command joins the tail of the command queue and replaces any still waiting for its slot (R189). -/
def Work.queueLatch (sl : Slot) (latched : Bool) (w : Work) : Work :=
  { w with kci := { w.kci with
      commands := (w.kci.commands.filter fun c => c.slot? != some sl) ++ [if latched then .latch sl else .unlatch sl] } }

/-- A SCAN joins the tail; at most one SCAN waits (R189), so it replaces one still waiting (assumption 8). -/
def Work.queueScan (b : BankNo) (w : Work) : Work :=
  { w with kci := { w.kci with commands := (w.kci.commands.filter fun c => c.slot?.isSome) ++ [.scan b] } }

/-- A slot commanded as R62 asks after a change of the hook map: a command is sent only when its commanded state
changes. -/
def Work.syncSlot (sl : Slot) (w : Work) : Work :=
  if w.kci.latched.get (slotIdx sl) = w.wantLatched sl then w
  else { w with kci := { w.kci with latched := w.kci.latched.set (slotIdx sl) (w.wantLatched sl) } }.queueLatch sl
    (w.wantLatched sl)

/-- The slot a hook maps to, commanded as R62 asks. -/
def Work.syncHook (h : HookNo) (w : Work) : Work := w.syncSlot (w.hookSlot h)

/-- A reported word decoded (R64, R65): the read word taken from the three-byte field, and the syndrome latch written
when the decode is not CLEAN (R66). -/
def Work.noteDecode (sl : Slot) (field : BitVec 24) (w : Work) : Work :=
  let word := readWord field
  if tagClass word = .clean then w
  else { w with kci := { w.kci with latch := ⟨true, sl, word, syndrome word, parityGood word, tagClass word⟩ } }

/-! ## Keys -/

/-- A ticket's KeyPlace set, and KEY_MISSING evaluated again when it goes into or out of MISSING (R19, R163). -/
def Work.setKey (n : TicketNo) (k : KeyPlace) (w : Work) : Work :=
  match w.ticket? n with
  | none => w
  | some t =>
    let w' := w.updTicket n fun t => { t with key := k }
    if t.key = k then w'
    else if k = .missing then w'.evalKeyMissing n true
    else if t.key = .missing then w'.evalKeyMissing n false
    else w'

/-- The hook of a key that has left its record becomes STRAY (R77, R33, R92): an open carry is abandoned with LATCH for
both its slots, and STRAY_KEY is raised. DESIGN CHOICE (assumption 23): of the two LATCH commands the one for the
CarrySlot is sent first and the one for the SpareSlot second, as R79 and R91 order them at the other ends of a carry. -/
def Work.strayHook (h : HookNo) (w : Work) : Work :=
  match (w.hook h).occ with
  | .awaitRehang _ c =>
    ((w.updHook h fun k => { k with occ := .stray }).syncSlot ⟨hookBank h, c⟩).syncHook h |>.raise .strayKey (.hook h)
  | .holding _ | .released _ =>
    ((w.updHook h fun k => { k with occ := .stray, windowLeft := 0 }).syncHook h).raise .strayKey (.hook h)
  | _ => w

/-- A ticket's KeyPlace set by a rule of another block; a key that was ON_HOOK leaves its hook STRAY (R77). -/
def Work.moveKeyOff (n : TicketNo) (k : KeyPlace) (w : Work) : Work :=
  match (w.ticket? n).map Ticket.key with
  | some (.onHook h) => (w.setKey n k).strayHook h
  | _ => w.setKey n k

end Sys2Proof.Machine
end

