-- ==== Sys2Proof/Machine/Alloc.lean ====
section
/-! DEFINITION. The allocation computation, the wait queue and its passes (sections 3.1 and 3.3). -/

namespace Sys2Proof.Machine

/-- The tiers of zone classes in which a ticket is placed (R38). -/
def tiers (p : Level) (c : CarClass) : List ZoneClass :=
  match p == 0, c with
  | true, .standard => [.reserved, .standard, .oversize]
  | true, .oversize => [.reserved, .oversize]
  | false, .standard => [.standard, .oversize]
  | false, .oversize => [.oversize]

/-- The charge for one deeper ticket (R39). -/
def conflictCharge (k : Nat) (dNew dB : Option Nat) : Nat :=
  match dNew, dB with
  | some a, some b => if a > b then 2 * k else 0
  | _, _ => k

/-- The fill position of a lane from the conditions of its positions (R37): the place directly in front of the first
position that is not FREE, the deepest when all are FREE, none when the first is not FREE. -/
def fillPosition (recs : List SpaceRec) : Option Nat :=
  match (recs.takeWhile fun r => r == .free).length with
  | 0 => none
  | q + 1 => some q

/-- The conflict charges of a candidate: one for each ticket recorded deeper in the lane (R39). -/
def State.conflicts (s : State) (t : Ticket) (deeper : List SpaceNo) : Nat :=
  (deeper.filterMap fun sp => (s.spaceRec sp).ticket?).foldl
    (fun a n => a + conflictCharge s.mc.params.k t.departure ((s.ticket? n).bind Ticket.departure)) 0

/-- The candidate a lane offers in a tier, with its score (R37, R39). -/
def State.candidate (s : State) (t : Ticket) (excluded : Option SpaceNo) (cls : ZoneClass) (l : Lane) :
    Option (Nat × SpaceNo) :=
  match s.zoneOf? l.front with
  | none => none
  | some (_, z) =>
    if z.isOpen ∧ z.cls = cls ∧ l.shuffle = none ∧ excluded ≠ some l.front then
      match fillPosition (l.spaces.map s.spaceRec) with
      | none => none
      | some p => some (2 * z.walk + s.conflicts t (l.spaces.drop (p + 1)), Fin.ofNat 1024 (l.front.val + p))
    else none

/-- The better of two candidates: the lower score, then the lower space number (R40). -/
def betterCandidate (a b : Nat × SpaceNo) : Nat × SpaceNo :=
  if a.1 < b.1 ∨ (a.1 = b.1 ∧ a.2.val ≤ b.2.val) then a else b

/-- The candidate chosen among those of a tier (R40). -/
def bestCandidate : List (Nat × SpaceNo) → Option (Nat × SpaceNo)
  | [] => none
  | c :: cs => some (cs.foldl betterCandidate c)

/-- The space the allocator returns for a ticket, with an optional excluded lane (R36 to R40). It changes nothing: a
trial (R42) reads it, and a real invocation makes the hold by `Work.hold` (R41). -/
def State.allocate (s : State) (t : Ticket) (excluded : Option SpaceNo) : Option SpaceNo :=
  (tiers t.priority t.carClass).findSome? fun cls =>
    (bestCandidate (s.sa.lanes.filterMap (s.candidate t excluded cls))).map (·.2)

/-- A chained trial (R42): a space is found for every ticket in turn, each counted as held for the tickets after it. -/
def trialChain (excluded : Option SpaceNo) : List Ticket → State → Bool
  | [], _ => true
  | t :: ts, s =>
    match s.allocate t excluded with
    | none => false
    | some sp => trialChain excluded ts { s with sa := { s.sa with spaces := s.sa.spaces.set sp (.held t.number) } }

/-- The SPACE notice to PODIUM and DISPATCH ports (R50). -/
def Work.emitSpace (n : TicketNo) (cause : SpaceCause) (claim : ClaimField) (sp : Option SpaceNo) (w : Work) : Work :=
  w.emit (w.portsWith .podium ||| w.portsWith .dispatch) (.space n cause claim sp (sp.bind w.zoneNo?))

/-- A ticket joins the tail of the wait queue as AWAITING_SPACE with Space absent (R47). -/
def Work.joinQueue (n : TicketNo) (w : Work) : Work :=
  ((w.updTicket n fun t => { t with state := .awaitingSpace, space := none }).setWaitQueue
    (w.sa.waitQueue ++ [n])).evalSpaceWait n true

/-- A ticket leaves the wait queue, if it is in it (R47). -/
def Work.leaveQueue (n : TicketNo) (w : Work) : Work :=
  if w.sa.waitQueue.contains n then (w.setWaitQueue (w.sa.waitQueue.filter fun m => m != n)).evalSpaceWait n false
  else w

/-- One waiting ticket tried in a pass (R49). -/
def Work.tryWaiting (w : Work) (n : TicketNo) : Work :=
  match w.ticket? n with
  | none => w
  | some t =>
    match w.allocate t none with
    | none => w
    | some sp =>
      (((w.hold n .space sp).updTicket n fun t => { t with state := .inbound }).leaveQueue n).emitSpace n .pass .space
        (some sp)

/-- A wait-queue pass: each waiting ticket tried once, oldest first (R49). -/
def Work.runPass (w : Work) : Work := w.sa.waitQueue.foldl Work.tryWaiting w

/-- A claim taken from its holder moves to another space: the field names the new hold, and a SPACE notice says so
(R50, R56, R123). -/
def Work.claimMoves (u : TicketNo) (f : ClaimField) (sp : SpaceNo) (w : Work) : Work :=
  (w.hold u f sp).emitSpace u .displaced f (some sp)

end Sys2Proof.Machine
end

