-- ==== Sys2Proof/Machine/Recall.lean ====
section
/-! DEFINITION. Recall entries, eligibility and estimates (sections 6.1, 6.5 and 6.7). -/

namespace Sys2Proof.Machine

/-! ## The recall queue -/

/-- The entry of a ticket, if it has one (R97). -/
def State.recall? (s : State) (n : TicketNo) : Option Entry := s.da.queue.find? fun e => e.ticket == n

/-- Queue order: Level, then Stamp, then TicketNumber (R98, R99). -/
def Entry.before (a b : Entry) : Bool :=
  a.level.val < b.level.val ||
    (a.level == b.level && (a.stamp < b.stamp || (a.stamp == b.stamp && a.ticket.toNat < b.ticket.toNat)))

/-- An entry put at its place in queue order (R99). -/
def insertEntry (e : Entry) (q : List Entry) : List Entry :=
  (q.takeWhile fun x => x.before e) ++ e :: q.dropWhile fun x => x.before e

/-- An entry joins the queue; it has not been considered in the arbitration in progress, if any (R114). -/
def Work.addEntry (e : Entry) (w : Work) : Work :=
  { w.setQueue (insertEntry e w.da.queue) with considered := w.considered.filter fun m => m != e.ticket }.trigger

/-- The entry of a ticket leaves the queue; the others keep their order (R101). -/
def Work.dropEntry (n : TicketNo) (w : Work) : Work := w.setQueue (w.da.queue.filter fun e => e.ticket != n)

/-- A new entry with a new Stamp (R98, R100); none is made for a ticket that already has one (R99). -/
def Work.createEntry (n : TicketNo) (k : EntryKind) (lv : Level) (c : Section4) (notify : PortSet) (w : Work) : Work :=
  match w.recall? n with
  | some _ => w
  | none => (w.addEntry ⟨n, k, lv, c, w.da.seq, notify⟩).advanceSeq

/-- An existing entry changed, and put again at its place (R99). -/
def Work.replaceEntry (e : Entry) (w : Work) : Work :=
  w.setQueue (insertEntry e (w.da.queue.filter fun x => x.ticket != e.ticket))

/-- The lower of two Levels. -/
def minLevel (a b : Level) : Level := if a.val ≤ b.val then a else b

/-- A RETURN entry asked for (R100): created when the ticket has none; merged into an existing RETURN entry; not made
when the ticket has an entry of another Kind. -/
def Work.askReturn (n : TicketNo) (lv : Level) (c : Section4) (w : Work) : Work :=
  match w.recall? n with
  | none => w.createEntry n .return_ lv c 0
  | some e =>
    if e.kind = .return_ then
      (w.replaceEntry { e with level := minLevel e.level lv }).triggerIf (lv.val < e.level.val)
    else w

/-! ## Runs by ticket -/

/-- The run that names a ticket in its Run, with its runner. -/
def State.runOf? (s : State) (n : TicketNo) : Option (RunnerNo × Run) :=
  (s.ticket? n).bind fun t => t.run.bind fun r => (s.run? r).map fun run => (r, run)

/-- The run whose target a ticket is, with its runner. -/
def State.targetRun? (s : State) (n : TicketNo) : Option (RunnerNo × Run) :=
  (s.runOf? n).filter fun x => x.2.target == n

/-- The runs in force with their runners, in runner order. -/
def State.runList (s : State) : List (RunnerNo × Run) :=
  (List.finRange 32).filterMap fun r => (s.run? r).map fun run => (r, run)

/-- The count of runners whose Duty is not OFF (R108). -/
def State.onDuty (s : State) : Nat := (s.da.runners.list.filter fun r => r.duty != .off).length

/-! ## Eligibility -/

/-- The bays of a section: bays 2c and 2c + 1 (R142). -/
def bayOf (c : Section4) (m : Fin 2) : BayNo := ⟨2 * c.val + m.val, by omega⟩

/-- The section of a bay (R142). -/
def baySection (b : BayNo) : Section4 := ⟨b.val / 2, by omega⟩

/-- An evictable bay: OCCUPIED, GuestCalled and Locked clear (R142). -/
def Bay.evictable (b : Bay) : Bool := b.condition == .occupied && !b.guestCalled && !b.locked

/-- An EMPTY bay. -/
def Bay.isEmpty (b : Bay) : Bool := b.condition == .empty

/-- The blockers of a space: the tickets of the OCCUPIED spaces in front of it, front first (R9, R124). -/
def State.blockers (s : State) (sp : SpaceNo) : List TicketNo :=
  (s.inFront sp).filterMap fun x => (s.spaceRec x).occupant?

/-- A ticket's key is ON_HOOK and the hook it names is HOLDING (R111). -/
def State.keyHeld (s : State) (t : Ticket) : Bool :=
  match t.key with
  | .onHook h =>
    match (s.hook h).occ with
    | .holding _ => true
    | _ => false
  | _ => false

/-- KeyPlace is ON_HOOK. -/
def KeyPlace.isOnHook : KeyPlace → Bool
  | .onHook _ => true
  | _ => false

/-- A car in front may be moved: PARKED, in no run, its key ON_HOOK (R111 condition 5). -/
def Ticket.movable (t : Ticket) : Bool := t.state == .parked && t.run.isNone && t.key.isOnHook

/-- Conditions 4 to 6 of R111 for a ticket standing in a space. -/
def State.laneBlocked (s : State) (sp : SpaceNo) : Option BlockedReason :=
  let recs := (s.blockers sp).map s.ticket?
  if ((s.laneOf? sp).bind Lane.shuffle).isSome then some .laneBusy
  else if recs.any fun t => !(t.any Ticket.movable) then some .blocker
  else if !trialChain (s.laneFront? sp) (recs.filterMap id) s then some .noRoom
  else none

/-- Condition 7 of R111. -/
def State.bayAvailable (s : State) (k : EntryKind) (c : Section4) : Bool :=
  (List.finRange 2).any fun m =>
    let b := s.bay (bayOf c m)
    b.isEmpty || (k == .retrieve && b.evictable)

/-- The first condition an entry fails, `none` when it is eligible (R111, R112). -/
def State.blockedReason (s : State) (e : Entry) : Option BlockedReason :=
  if !s.da.mask.getLsbD e.level.val then some .masked
  else
    match s.ticket? e.ticket, e.kind with
    | none, _ => some .notParked
    | some t, .return_ =>
      if t.state ≠ .staged ∨ t.bay.any (fun b => (s.bay b).guestCalled) then some .notParked
      else if (s.allocate t none).isNone then some .noRoom
      else none
    | some t, k =>
      if t.state ≠ .parked ∨ t.run.isSome then some .notParked
      else if !s.keyHeld t then some .keyAbsent
      else
        match t.space.bind s.laneBlocked with
        | some r => some r
        | none => if s.bayAvailable k e.curbSection then none else some .noBay

/-! ## Estimates -/

/-- 2·Walk of the zone of a space, Walk taken as 40 when there is none (R118). -/
def State.walkTwice (s : State) (sp : Option SpaceNo) : Nat :=
  match sp.bind s.zoneOf? with
  | some (_, z) => 2 * z.walk
  | none => 80

/-- D of a RETRIEVE or PRESTAGE run or entry for a ticket in a space (R118). -/
def State.retrieveEstimate (s : State) (sp : Option SpaceNo) : Nat :=
  s.walkTwice sp + (match sp with | some x => (s.blockers x).length | none => 0) * s.mc.params.k

/-- D of a pending entry (R118). -/
def State.entryEstimate (s : State) (e : Entry) : Nat :=
  match s.ticket? e.ticket, e.kind with
  | some t, .return_ => s.walkTwice (s.allocate t none)
  | some t, _ => s.retrieveEstimate t.space
  | none, _ => 80

/-- What a run still has to go: max(D − Elapsed, 0) (R119). -/
def Run.remaining (r : Run) : Nat := r.d - r.elapsed

/-- Q of R119: the remaining work of every run and the estimates of the entries ahead of a ticket's entry. -/
def State.workAhead (s : State) (n : TicketNo) : Nat :=
  ((s.runList.map fun x => x.2.remaining).sum) +
    ((s.da.queue.takeWhile fun e => e.ticket != n).map s.entryEstimate).sum

/-- The ETA of a ticket (R119). -/
def State.eta (s : State) (n : TicketNo) : Nat :=
  if (s.ticket? n).any fun t => t.state == .staged then 0
  else
    match s.recall? n with
    | some e =>
      if s.onDuty = 0 then 255
      else min ((s.workAhead n + s.onDuty - 1) / s.onDuty + s.entryEstimate e) 254
    | none =>
      match s.targetRun? n with
      | some (_, r) => min r.remaining 254
      | none => 255

end Sys2Proof.Machine
end

