-- ==== Sys2Proof/Machine/Forecourt.lean ====
section
/-! DEFINITION. The Forecourt Controller's bays: reservation, eviction, revert and the leaving of a bay
(sections 8.1 to 8.3). -/

namespace Sys2Proof.Machine

/-- The other bay of a section. -/
def otherBay (m : Fin 2) : Fin 2 := if m = 0 then 1 else 0

/-- Which of its section's bays a bay is. -/
def bayIndex (b : BayNo) : Fin 2 := ⟨b.val % 2, by omega⟩

/-- The bay a reservation takes in a section (R144): the marker's bay when EMPTY, otherwise the other when EMPTY;
for RETRIEVE only, otherwise the marker's bay when evictable, otherwise the other when evictable. -/
def State.bayChoice (s : State) (c : Section4) (k : EntryKind) : Option BayNo :=
  let m := bayOf c (s.fc.marker.get c)
  let o := bayOf c (otherBay (s.fc.marker.get c))
  if (s.bay m).isEmpty then some m
  else if (s.bay o).isEmpty then some o
  else if k ≠ .retrieve then none
  else if (s.bay m).evictable then some m
  else if (s.bay o).evictable then some o
  else none

/-- A ticket has a pending RETURN entry. -/
def State.returnPending (s : State) (n : TicketNo) : Bool := (s.recall? n).any fun e => e.kind == .return_

/-- An eviction of a bay for a target, at a Level (R145). -/
def Work.evict (b : BayNo) (x : TicketNo) (lv : Level) (w : Work) : Work :=
  match (w.bay b).occupant with
  | none => w
  | some y =>
    (w.updBay b fun k => { k with condition := .clearing, incoming := some x, entryMade := (w.recall? y).isNone }).askReturn
      y lv (baySection b)

/-- The marker of a section names the bay other than the one reserved (R143). -/
def Work.moveMarker (b : BayNo) (w : Work) : Work :=
  { w with fc := { w.fc with marker := w.fc.marker.set (baySection b) (otherBay (bayIndex b)) } }

/-- A bay reserved for a target: an EMPTY bay becomes INCOMING, another is evicted; the marker then names the other
bay of the section (R143, R144). -/
def Work.takeBay (b : BayNo) (x : TicketNo) (lv : Level) (w : Work) : Work :=
  (if (w.bay b).isEmpty then w.updBay b fun k => { k with condition := .incoming, incoming := some x }
   else w.evict b x lv).moveMarker b

/-- A reservation reverted (R146): the bay by the first case that fits; the caller settles the target's Bay. -/
def Work.revertBay (b : BayNo) (x : TicketNo) (w : Work) : Work :=
  let k := w.bay b
  if k.condition = .incoming ∧ k.incoming = some x then (w.updBay b fun _ => emptyBay).trigger
  else if k.condition = .clearing ∧ k.incoming = some x then
    match k.occupant with
    | none => w
    | some y =>
      if w.returnPending y then
        (if k.entryMade then w.dropEntry y else w).updBay b fun k =>
          { k with condition := .occupied, incoming := none, entryMade := false }
      else w.updBay b fun k => { k with incoming := none }
  else w

/-- A CLEARING bay whose occupant has left it passes to the target waiting for it, or becomes EMPTY (R148, R153). -/
def Work.vacate (b : BayNo) (w : Work) : Work :=
  (w.updBay b fun k =>
    match k.incoming with
    | some x => { emptyBay with condition := .incoming, incoming := some x }
    | none => emptyBay).trigger

/-- The bay of a car sent back on a RETURN run (R147). -/
def Work.returnGrantBay (b : BayNo) (w : Work) : Work :=
  if (w.bay b).condition = .occupied then
    w.updBay b fun k => { k with condition := .clearing, incoming := none, entryMade := false, locked := false }
  else w

/-- The bay a parked car left or was bound for (R148). -/
def Work.parkedBay (b : BayNo) (t : TicketNo) (w : Work) : Work :=
  let k := w.bay b
  if k.condition = .clearing ∧ k.occupant = some t then w.vacate b
  else if k.condition = .incoming ∧ k.incoming = some t then (w.updBay b fun _ => emptyBay).trigger
  else w

/-- The bay of a car handed over (R153). -/
def Work.handoverBay (b : BayNo) (t : TicketNo) (w : Work) : Work :=
  let k := w.bay b
  if k.condition = .occupied ∧ k.occupant = some t then (w.updBay b fun _ => emptyBay).trigger
  else if k.condition = .clearing ∧ k.occupant = some t then w.vacate b
  else if k.condition = .incoming ∧ k.incoming = some t then (w.updBay b fun _ => emptyBay).trigger
  else w

/-- The READY notice of a car in a bay (R151), GuestCalled as it stands. -/
def Work.emitReady (ports : PortSet) (n : TicketNo) (b : BayNo) (cause : ReadyCause) (w : Work) : Work :=
  w.emit ports (.ready n b (w.bay b).guestCalled cause)

/-- A reservation on a bay that gave up its eviction is moved to the other bay of the section, or lost (R152). -/
def Work.rereserve (b : BayNo) (x : TicketNo) (w : Work) : Work :=
  let o := bayOf (baySection b) (otherBay (bayIndex b))
  match w.runOf? x with
  | none => w
  | some (r, run) =>
    if (w.bay o).isEmpty || (w.bay o).evictable then
      ((w.takeBay o x run.level).updRun r fun run => { run with bay := some o }).updTicket x fun t =>
        { t with bay := some o }
    else w

/-- A RECALL of a STAGED ticket marks its bay GuestCalled (R152); an eviction under way is given up. -/
def Work.markCalled (b : BayNo) (w : Work) : Work :=
  let k := w.bay b
  match k.condition with
  | .occupied => w.updBay b fun k => { k with guestCalled := true }
  | .clearing =>
    let w' := w.updBay b fun k =>
      { k with condition := .occupied, incoming := none, guestCalled := true, entryMade := false }
    match k.incoming with
    | some x => w'.rereserve b x
    | none => w'
  | _ => w

end Sys2Proof.Machine
end

