-- ==== Sys2Proof/Machine/Runs.lean ====
section
/-! DEFINITION. Runs and their steps: release, lift, lapse, completion, abort and grant (chapter 7). -/

namespace Sys2Proof.Machine

/-! ## Steps -/

/-- The step being worked (R121). -/
def Run.current? (r : Run) : Option RunStep := r.steps[r.currentStep]?

/-- A run with one of its steps changed. -/
def Run.updStep (i : Nat) (f : RunStep → RunStep) (r : Run) : Run :=
  match r.steps[i]? with
  | some st => { r with steps := r.steps.set i (f st) }
  | none => r

/-- A run with its current step changed. -/
def Run.updCurrent (f : RunStep → RunStep) (r : Run) : Run := r.updStep r.currentStep f

/-- To of a step, read from the ticket or the run as they stand (R122). -/
def State.stepTo (s : State) (run : Run) (st : RunStep) : Option Place :=
  match st.role, run.kind with
  | .blocker, _ => ((s.ticket? st.ticket).bind Ticket.nextSpace).map .space
  | .target, .return_ => ((s.ticket? st.ticket).bind Ticket.space).map .space
  | .target, _ => run.bay.map .bay

/-- The STEP notice of one step of a run, to DISPATCH ports (R139). -/
def Work.emitStep (r : RunnerNo) (run : Run) (i : Nat) (reason : StepReason) (completed : Bool) (w : Work) : Work :=
  match run.steps[i]? with
  | none => w
  | some st =>
    w.emit (w.portsWith .dispatch)
      (.step r run.target i st.ticket st.state st.hook (w.stepTo run st) st.withheld run.committed completed reason)

/-- The STEP notice of the current step of a runner's run as it stands. -/
def Work.emitCurrent (r : RunnerNo) (reason : StepReason) (w : Work) : Work :=
  match w.run? r with
  | some run => w.emitStep r run run.currentStep reason false
  | none => w

/-- What the Key Cabinet Interface finds when asked to release a ticket's key (R73): the hook, or the reason not. -/
def State.releaseFinding (s : State) (n : TicketNo) : Except Withheld HookNo :=
  match (s.ticket? n).map Ticket.key with
  | some (.onHook h) =>
    match (s.hook h).occ with
    | .holding m => if m = n then .ok h else .error .keyAbsent
    | .awaitRehang _ _ => .error .carry
    | _ => .error .keyAbsent
  | _ => .error .keyAbsent

/-- A key released: the hook is RELEASED and unlatched with a window of the release window in force (R73). -/
def Work.openHook (h : HookNo) (n : TicketNo) (w : Work) : Work :=
  (w.updHook h fun k => { k with occ := .released n, windowLeft := w.mc.params.window }).syncHook h

/-- The lane of a run's target (R127). -/
def State.targetLane? (s : State) (run : Run) : Option SpaceNo :=
  ((s.ticket? run.target).bind Ticket.space).bind s.laneFront?

/-- A space found for a blocker and recorded in its NextSpace, if one is found (R41, R124). -/
def Work.planBlocker (excluded : Option SpaceNo) (w : Work) (n : TicketNo) : Work :=
  match (w.ticket? n).bind fun t => w.allocate t excluded with
  | some sp => w.hold n .nextSpace sp
  | none => w

/-- A blocker whose NextSpace is absent is planned again when its step becomes current (R127 item 1). -/
def Work.replan (excluded : Option SpaceNo) (n : TicketNo) (w : Work) : Work :=
  if ((w.ticket? n).bind Ticket.nextSpace).isSome then w else w.planBlocker excluded n

/-- The release of a step's key asked for (R127 items 2 and 3). -/
def Work.askRelease (r : RunnerNo) (n : TicketNo) (w : Work) : Work :=
  match w.releaseFinding n with
  | .ok h =>
    (w.openHook h n).updRun r (Run.updCurrent fun st =>
      { st with state := .released, hook := some h, withheld := none })
  | .error x => w.updRun r (Run.updCurrent fun st => { st with state := .lapsed, withheld := some x })

/-- The step named by CurrentStep becomes current (R127); the notice is the caller's. -/
def Work.makeCurrent (r : RunnerNo) (w : Work) : Work :=
  match w.run? r with
  | none => w
  | some run =>
    match run.current? with
    | none => w
    | some st =>
      (if st.role = .blocker then w.replan (w.targetLane? run) st.ticket else w).askRelease r st.ticket

/-- A ticket is the ticket of the current step of its run, and that step is in the given StepState. -/
def State.currentIs (s : State) (n : TicketNo) (x : StepState) : Bool :=
  ((s.runOf? n).bind fun p => p.2.current?).any fun st => st.ticket == n && st.state == x

/-- A run whose current step becomes CARRIED; its first CARRIED step commits it (R128). -/
def Run.carry (q : Run) : Run :=
  { q.updCurrent (fun st => { st with state := .carried, withheld := none }) with committed := true }

/-- The Dispatch Arbiter is told that the key of a current step has been lifted (R128). -/
def Work.stepLifted (n : TicketNo) (w : Work) : Work :=
  match w.runOf? n with
  | none => w
  | some (r, run) =>
    match run.current? with
    | none => w
    | some st =>
      if st.ticket = n then
        (((w.updRun r Run.carry).updRunner r fun x => { x with duty := .committed }).updTicket n fun t =>
            { t with state := match st.role with | .blocker => .relocating | .target => .outbound }).emitCurrent r .lift
      else w

/-- The Dispatch Arbiter is told that the window of a current step has run out (R131). -/
def Work.stepLapsed (n : TicketNo) (w : Work) : Work :=
  match w.runOf? n with
  | none => w
  | some (r, _) =>
    if w.currentIs n .released then
      (w.updRun r (Run.updCurrent fun st => { st with state := .lapsed, withheld := none })).emitCurrent r .lapse
    else w

/-! ## Completion and abort -/

/-- Every lane record changed. -/
def Work.mapLanes (f : Lane → Lane) (w : Work) : Work :=
  { w with sa := { w.sa with lanes := w.sa.lanes.map f } }

/-- The Shuffle mark of a lane recorded (R123). -/
def Work.setShuffle (front : Option SpaceNo) (r : RunnerNo) (w : Work) : Work :=
  w.mapLanes fun l => if front = some l.front then { l with shuffle := some r } else l

/-- The Shuffle mark that names a runner cleared; a pass and an arbitration are due (R44, R48, R113). -/
def Work.clearShuffle (r : RunnerNo) (w : Work) : Work :=
  (w.mapLanes fun l => if l.shuffle = some r then { l with shuffle := none } else l).needPass.trigger

/-- Run written on the tickets of a run's steps. -/
def Work.setRunOn (run : Run) (r : Option RunnerNo) (w : Work) : Work :=
  run.steps.foldl (fun w st => w.updTicket st.ticket fun t => { t with run := r }) w

/-- A runner becomes FREE with a new FreeStamp (R98, R108). -/
def Work.freeRunner (r : RunnerNo) (w : Work) : Work :=
  (w.updRunner r fun x => { x with duty := .free, freeStamp := w.da.seq }).advanceSeq.trigger

/-- The TARGET step is DONE and the run completes (R134). -/
def Work.completeRun (r : RunnerNo) (reason : StepReason) (w : Work) : Work :=
  match w.run? r with
  | none => w
  | some run0 =>
    let run := run0.updCurrent fun st => { st with state := .done }
    let w1 := if run.kind = .return_ then w else w.clearShuffle r
    (((w1.setRunOn run none).setRun r none).freeRunner r).emitStep r run run.currentStep reason true

/-- The hook of an aborted run's current step relatched (R76). -/
def Work.relatch (n : TicketNo) (w : Work) : Work :=
  match (w.ticket? n).map Ticket.key with
  | some (.onHook h) =>
    match (w.hook h).occ with
    | .released m =>
      if m = n then ((w.updHook h fun k => { k with occ := .holding n, windowLeft := 0 }).syncHook h).trigger else w
    | _ => w
  | _ => w

/-- A target's reservation reverted and its Bay made absent (R135 item 4, R146). -/
def Work.revertTarget (n : TicketNo) (w : Work) : Work :=
  match (w.ticket? n).bind Ticket.bay with
  | some b => (w.revertBay b n).updTicket n fun t => { t with bay := none }
  | none => w

/-- A run that is not committed is aborted (R135): what becomes of the runner and the entry is the caller's (R136). -/
def Work.abortRun (r : RunnerNo) (cause : HaltCause) (returned : Bool) (w : Work) : Work :=
  match w.run? r with
  | none => w
  | some run =>
    let w1 := match run.current? with | some st => w.relatch st.ticket | none => w
    let w2 := (run.steps.filter fun st => st.role == .blocker).foldl
      (fun w st => w.releaseClaim st.ticket .nextSpace) w1
    let w3 := ((w2.clearShuffle r).revertTarget run.target).setRunOn run none
    (w3.setRun r none).emit (w.portsWith .dispatch) (.halt r run.target run.kind run.level cause returned)

/-- The entry of an aborted run returns to the queue with the Stamp the run kept (R116, R136); none is made for a
ticket that already has one (R99). -/
def Work.returnEntry (run : Run) (w : Work) : Work :=
  match w.recall? run.target with
  | some _ => w
  | none => w.addEntry ⟨run.target, run.kind, run.level, run.curbSection, run.stamp, run.notify⟩

/-! ## Grant -/

/-- A hold in front of the target displaced when its lane is shuffled (R123 item 2). -/
def Work.displaceHeld (excluded : Option SpaceNo) (w : Work) (x : SpaceNo) : Work :=
  match (w.spaceRec x).holder? with
  | none => w
  | some u =>
    match w.ticket? u with
    | none => w
    | some t =>
      match t.claimOf? x, w.allocate t excluded with
      | some f, some y => (w.setSpace x .free).claimMoves u f y
      | _, _ => w

/-- The RUN notice of a run just granted (R138). -/
def Work.emitRun (r : RunnerNo) (preempting : Bool) (w : Work) : Work :=
  match w.run? r with
  | none => w
  | some run =>
    let st0 := run.steps[0]?
    w.emit (w.portsWith .dispatch)
      (.run r (w.da.runners.get r).team run.kind run.level run.target run.curbSection run.bay run.committed run.d
        run.threshold preempting (run.steps.map fun st => ⟨st.ticket, st.role, st.origin, w.stepTo run st⟩)
        (st0.map RunStep.state) (st0.bind RunStep.hook) (st0.bind RunStep.withheld))

/-- The bay of a RETRIEVE or PRESTAGE run reserved and recorded in the run and the ticket (R125 item 1, R144). -/
def Work.reserveFor (r : RunnerNo) (e : Entry) (w : Work) : Work :=
  match w.bayChoice e.curbSection e.kind with
  | none => w
  | some b =>
    ((w.takeBay b e.ticket e.level).updRun r fun run => { run with bay := some b }).updTicket e.ticket fun t =>
      { t with bay := some b }

/-- The DA's own part of every grant (R113): the entry leaves the queue, the run takes a GrantStamp, and the runner's
Duty is set. -/
def Work.beginGrant (e : Entry) (r : RunnerNo) (duty : Duty) (w : Work) : Work :=
  ((w.dropEntry e.ticket).advanceSeq).updRunner r fun x => { x with duty := duty }

/-- A run record just made from an entry (R113, R124, R126). -/
def newRun (e : Entry) (grantStamp d slack : Nat) (committed : Bool) (steps : List RunStep) : Run :=
  { kind := e.kind, level := e.level, stamp := e.stamp, grantStamp := grantStamp, target := e.ticket,
    curbSection := e.curbSection, bay := none, steps := steps, currentStep := 0, committed := committed, d := d,
    threshold := min (d + slack) 254, elapsed := 0, overdue := false, lost := false, notify := e.notify }

/-- A step just made (R124). -/
def newStep (s : State) (role : StepRole) (n : TicketNo) : RunStep :=
  ⟨n, role, ((s.ticket? n).bind Ticket.space).map .space, none, .waiting, none⟩

/-- The grant of a RETRIEVE or PRESTAGE run (R123, R124, R125). A PARKED ticket has a Space (R43); without one there
would be no lane and no blocker, and D is as R118 says for a ticket without a Space. -/
def Work.grantRetrieve (e : Entry) (r : RunnerNo) (preempting : Bool) (w : Work) : Work :=
  match w.ticket? e.ticket with
  | none => w
  | some t =>
    let lane := t.space.bind w.laneFront?
    let w1 := (w.beginGrant e r .assigned).setShuffle lane r
    let w2 := (t.space.toList.flatMap w1.inFront).foldl (Work.displaceHeld lane) w1
    let blockers := t.space.toList.flatMap w2.blockers
    let w3 := blockers.foldl (Work.planBlocker lane) w2
    let steps := blockers.map (newStep w3.toState .blocker) ++ [newStep w3.toState .target e.ticket]
    let run := newRun e w.da.seq (w3.retrieveEstimate t.space) w.mc.params.s false steps
    (((w3.setRun r (some run)).reserveFor r e).setRunOn run (some r)).makeCurrent r |>.emitRun r preempting

/-- The grant of a RETURN run (R126). -/
def Work.grantReturn (e : Entry) (r : RunnerNo) (preempting : Bool) (w : Work) : Work :=
  match w.ticket? e.ticket with
  | none => w
  | some t =>
    match w.allocate t none with
    | none => w
    | some sp =>
      let w1 := ((w.beginGrant e r .committed).hold e.ticket .space sp).updTicket e.ticket fun t =>
        { t with state := .returning, run := some r }
      let w2 := w1.moveKeyOff e.ticket .taken
      let step : RunStep := ⟨e.ticket, .target, t.bay.map .bay, none, .carried, none⟩
      let w3 := w2.setRun r (some (newRun e w.da.seq (w2.walkTwice (some sp)) w.mc.params.s true [step]))
      (match t.bay with | some b => w3.returnGrantBay b | none => w3).emitRun r preempting

/-- A run granted for an entry to a runner (R113). -/
def Work.grant (e : Entry) (r : RunnerNo) (preempting : Bool) (w : Work) : Work :=
  match e.kind with
  | .return_ => w.grantReturn e r preempting
  | _ => w.grantRetrieve e r preempting

end Sys2Proof.Machine
end

