-- ==== Sys2Proof/Machine/Arbiter.lean ====
section
/-! DEFINITION. The arbiter: choice of runner, preemption, and the pass and arbitration at the end of an event
(sections 6.6 and 3.3). -/

namespace Sys2Proof.Machine

/-- The FREE runners, in runner order. -/
def State.freeRunners (s : State) : List RunnerNo :=
  (List.finRange 32).filter fun r => (s.da.runners.get r).duty == .free

/-- The target space by which a runner is chosen (R115 item 1). -/
def State.targetSpace (s : State) (e : Entry) : Option SpaceNo :=
  (s.ticket? e.ticket).bind fun t => if e.kind = .return_ then s.allocate t none else t.space

/-- The preferred team of a space; `none` is ANY (R7). -/
def State.preferredTeam (s : State) (sp : Option SpaceNo) : Option Team :=
  sp.bind fun x => (s.zoneOf? x).bind fun z => z.2.preferredTeam x

/-- The candidates for an entry among the FREE runners (R115 items 2 and 3). -/
def State.runnerCandidates (s : State) (e : Entry) : List RunnerNo :=
  match s.preferredTeam (s.targetSpace e) with
  | none => s.freeRunners
  | some tm =>
    let own := s.freeRunners.filter fun r => (s.da.runners.get r).team == tm
    if own.isEmpty then s.freeRunners else own

/-- The runner chosen for an entry: the smallest FreeStamp, ties to the lowest runner number (R115 item 4). -/
def State.chooseRunner (s : State) (e : Entry) : Option RunnerNo :=
  (s.runnerCandidates e).foldl
    (fun best r =>
      match best with
      | none => some r
      | some b => if (s.da.runners.get r).freeStamp < (s.da.runners.get b).freeStamp then some r else some b) none

/-- The more fitting of two victims: the greater Level, then the greater GrantStamp, then the higher runner (R116). -/
def fitterVictim (a b : RunnerNo × Run) : RunnerNo × Run :=
  if a.2.level.val > b.2.level.val ∨
      (a.2.level = b.2.level ∧ (a.2.grantStamp > b.2.grantStamp ∨
        (a.2.grantStamp = b.2.grantStamp ∧ a.1.val > b.1.val))) then a else b

/-- The victim an entry of a Level finds: among the runs of ASSIGNED runners of greater Level (R116). -/
def State.victim (s : State) (lv : Level) : Option (RunnerNo × Run) :=
  match s.runList.filter fun x => (s.da.runners.get x.1).duty == .assigned && lv.val < x.2.level.val with
  | [] => none
  | x :: xs => some (xs.foldl fitterVictim x)

/-- A preemption: the victim's run is aborted, its entry returns, and the entry is granted to its runner (R116). -/
def Work.preempt (e : Entry) (r : RunnerNo) (run : Run) (w : Work) : Work :=
  { (((w.abortRun r .preempted true).returnEntry run).grant e r true) with preempted := true }

/-- The first entry in queue order not yet considered in this arbitration (R114). -/
def Work.nextEntry? (w : Work) : Option Entry := w.da.queue.find? fun e => !w.considered.contains e.ticket

/-- One arbitration: the entries considered one at a time, until none is left or an eligible one finds neither a FREE
runner nor a victim (R114). The first argument bounds the turns (assumption 7). -/
def arbitrateTurns : Nat → Work → Work
  | 0, w => w
  | n + 1, w =>
    match w.nextEntry? with
    | none => w
    | some e =>
      let w' : Work := { w with considered := e.ticket :: w.considered }
      if (w.blockedReason e).isSome then arbitrateTurns n w'
      else
        match w.chooseRunner e with
        | some r => arbitrateTurns n (w'.grant e r false)
        | none =>
          match w.victim e.level with
          | some (r, run) => arbitrateTurns n (w'.preempt e r run)
          | none => w'

/-- Turns enough for any arbitration: the queue, and the entries that grants and preemptions can add (assumption 7). -/
def turnBound (w : Work) : Nat := w.da.queue.length + 1024

/-- An arbitration, followed by a pass and another arbitration while preemptions are made (R116). -/
def arbitrateRounds : Nat → Work → Work
  | 0, w => w
  | n + 1, w =>
    let w' := arbitrateTurns (turnBound w) { w with considered := [], preempted := false }
    if w'.preempted then arbitrateRounds n w'.runPass else w'

/-- Rounds enough for any event: each round but the last makes a preemption, which lowers the Level of a runner's run
(R116, assumption 7). -/
def roundBound : Nat := 1024

/-- The pass of an event, when it calls for one: only in SERVICE (R48). -/
def Work.passIfDue (w : Work) : Work :=
  if w.passDue && w.mc.mode == .service then Work.runPass { w with passDue := false } else w

/-- The arbitration of an event, when it carries a trigger: only in SERVICE (R113). -/
def Work.arbitrateIfDue (w : Work) : Work :=
  if w.arbDue && w.mc.mode == .service then arbitrateRounds roundBound { w with arbDue := false } else w

/-- The end of an event: the pass is run before the arbitration (R48, R113). -/
def Work.finish (w : Work) : Work := w.passIfDue.arbitrateIfDue

/-- An event that is no request, taken whole: nothing happens when the part is not live. -/
def takeEvent (f : Work → Work) (s : State) : State :=
  if s.live then (f (Work.begin s)).finish.close else s

end Sys2Proof.Machine
end

