-- ==== Sys2Proof/Machine/Operands.lean ====
section
/-! DEFINITION. The operand fields of requests read from their widths on the line (section 11.6.1): each reader answers
`none` for a value out of the encoding's range, which R184 refuses BAD_FIELD. -/

namespace Sys2Proof.Machine

/-- A number below `n`. -/
def fin? (n x : Nat) : Option (Fin n) := if h : x < n then some ⟨x, h⟩ else none

/-- A flag: 00h clear, 01h set. -/
def flag? (b : Byte) : Option Bool :=
  match b.toNat with
  | 0 => some false
  | 1 => some true
  | _ => none

/-- A CarClass, in the order of R17. -/
def carClass? (b : Byte) : Option CarClass :=
  match b.toNat with
  | 0 => some .standard
  | 1 => some .oversize
  | _ => none

/-- A ZoneClass, in the order of R1. -/
def zoneClass? (b : Byte) : Option ZoneClass :=
  match b.toNat with
  | 0 => some .standard
  | 1 => some .oversize
  | 2 => some .reserved
  | _ => none

/-- A level 0 to 7. -/
def level? (b : Byte) : Option Level := fin? 8 b.toNat

/-- A level 0 to 7, or FFh for an item not given. -/
def optLevel? (b : Byte) : Option (Option Level) := if b = 0xFF then some none else (level? b).map some

/-- A curb section 0 to 3. -/
def curbSection? (b : Byte) : Option Section4 := fin? 4 b.toNat

/-- A curb section 0 to 3, or FFh for none named. -/
def optSection? (b : Byte) : Option (Option Section4) := if b = 0xFF then some none else (curbSection? b).map some

/-- A team 0 to 3, or FFh for ANY (section 11.6.2). -/
def quarterTeam? (b : Byte) : Option (Option Team) := if b = 0xFF then some none else (fin? 4 b.toNat).map some

/-- A TicketNumber or GuestRef that must be present: 0 is refused. -/
def present? (n : BitVec 16) : Option (BitVec 16) := if n = 0 then none else some n

/-- A space 0 to 1023. -/
def space? (x : BitVec 16) : Option SpaceNo := fin? 1024 x.toNat

/-- A hook 0 to 511. -/
def hook? (x : BitVec 16) : Option HookNo := fin? 512 x.toNat

/-- A runner 0 to 31. -/
def runner? (b : Byte) : Option RunnerNo := fin? 32 b.toNat

/-- A bay 0 to 7. -/
def bay? (b : Byte) : Option BayNo := fin? 8 b.toNat

/-- A zone 0 to 7. -/
def zone? (b : Byte) : Option ZoneNo := fin? 8 b.toNat

/-- A bank 0 to 15. -/
def bank? (b : Byte) : Option BankNo := fin? 16 b.toNat

/-- A set of roles: no bit above the fourth. -/
def roles? (b : Byte) : Option (BitVec 4) := if b.toNat < 16 then some (b.setWidth 4) else none

/-- A set of alert flags: no bit above the eleventh (section 11.6.2). -/
def alertSet? (x : BitVec 16) : Option (BitVec 11) := if x.toNat < 2048 then some (x.setWidth 11) else none

/-- A GuestRef given as 0 is absent (R23, R28). -/
def guestRefOf (n : BitVec 16) : Option (BitVec 16) := if n = 0 then none else some n

/-- A value clamped into a range. -/
def clamp (lo hi x : Nat) : Nat := max lo (min x hi)

/-- The parameters of CONFIGURE PARAMS and TUNE, each clamped into its range (R171, R172). -/
def paramsOf (k s window l : Byte) : Params :=
  ⟨clamp 1 63 k.toNat, clamp 0 40 s.toNat, clamp 2 20 window.toNat, clamp 0 60 l.toNat⟩

/-- A departure offset converted to an absolute minute (R27). -/
def departureOf (now : Nat) (offset : BitVec 16) : Nat :=
  min (now + min offset.toNat Config.maxOffset) Config.maxMinute

/-- The departure item of an AMEND (R28). -/
inductive DepartureItem where
  | keep
  | set (offset : BitVec 16)
  | clear
deriving DecidableEq, Repr

/-- The departure action (none, set, clear) with its offset (section 11.6.2). -/
def departureItem? (action : Byte) (offset : BitVec 16) : Option DepartureItem :=
  match action.toNat with
  | 0 => some .keep
  | 1 => some (.set offset)
  | 2 => some .clear
  | _ => none

end Sys2Proof.Machine
end

