-- ==== Sys2Proof/Machine/Requests.lean ====
section
/-! DEFINITION. What is common to all requests: their kinds, the checks of R184 in order, and the answer (R183 to
R186). -/

namespace Sys2Proof.Machine

/-- The request kinds (section 11.6.2). -/
inductive ReqKind where
  | issue | parked | amend | queryTicket | recall | cancel | staged | handover | returnCar | bayHold | runnerDuty
  | reopen | dispatchMask | queryRunner | keyClaim | releaseHook | substitute | retire | restore | cabinetDiag
  | zoneState | spaceService | querySpace | configure | tune | commitSetup | coldStart | clearAlert | status
deriving DecidableEq, Repr

/-- The kind byte of a request. -/
def ReqKind.code : ReqKind → Byte
  | .issue => 0x01 | .parked => 0x02 | .amend => 0x03 | .queryTicket => 0x04 | .recall => 0x05 | .cancel => 0x06
  | .staged => 0x07 | .handover => 0x08 | .returnCar => 0x09 | .bayHold => 0x0A | .runnerDuty => 0x0B
  | .reopen => 0x0C | .dispatchMask => 0x0D | .queryRunner => 0x0E | .keyClaim => 0x0F | .releaseHook => 0x10
  | .substitute => 0x11 | .retire => 0x12 | .restore => 0x13 | .cabinetDiag => 0x14 | .zoneState => 0x15
  | .spaceService => 0x16 | .querySpace => 0x17 | .configure => 0x18 | .tune => 0x19 | .commitSetup => 0x1A
  | .coldStart => 0x1B | .clearAlert => 0x1C | .status => 0x1D

/-- Every request kind, in the order of the table. -/
def allKinds : List ReqKind :=
  [.issue, .parked, .amend, .queryTicket, .recall, .cancel, .staged, .handover, .returnCar, .bayHold, .runnerDuty,
   .reopen, .dispatchMask, .queryRunner, .keyClaim, .releaseHook, .substitute, .retire, .restore, .cabinetDiag,
   .zoneState, .spaceService, .querySpace, .configure, .tune, .commitSetup, .coldStart, .clearAlert, .status]

/-- The request kind of a body's byte 0, if it is one (R184 check 1). -/
def reqKind? (b : Byte) : Option ReqKind := allKinds.find? fun k => k.code == b

/-- The roles of which one is needed, as a set of roles; `none` for a kind marked "any" (section 11.6.2). -/
def ReqKind.roles : ReqKind → Option (BitVec 4)
  | .queryTicket | .queryRunner | .querySpace | .status => none
  | .issue | .handover | .returnCar => some 0b0001
  | .parked | .staged => some 0b0101
  | .amend | .cancel | .bayHold => some 0b0011
  | .recall => some 0b0111
  | .runnerDuty | .reopen | .dispatchMask => some 0b0100
  | .keyClaim => some 0b1001
  | .releaseHook | .substitute | .retire | .restore | .cabinetDiag | .configure | .tune | .commitSetup
  | .coldStart => some 0b1000
  | .zoneState | .spaceService => some 0b1100
  | .clearAlert => some 0b1101

/-- The mode check: the refusal of a kind in a mode, `none` when it is served (R175). -/
def modeRefusal (k : ReqKind) (m : Mode) : Option ResultCode :=
  match k, m with
  | .status, _ | .clearAlert, _ => none
  | .queryTicket, .setup | .querySpace, .setup | .queryRunner, .setup => some .notReady
  | .queryTicket, _ | .querySpace, _ | .queryRunner, _ => none
  | .configure, .setup | .commitSetup, .setup => none
  | .configure, .recovery | .commitSetup, .recovery => some .notReady
  | .configure, .service | .commitSetup, .service => some .badState
  | .tune, .recovery | .substitute, .recovery | .retire, .recovery | .restore, .recovery
  | .cabinetDiag, .recovery => some .notReady
  | .tune, _ | .substitute, _ | .retire, _ | .restore, _ | .cabinetDiag, _ => none
  | _, .service => none
  | _, _ => some .notReady

/-- The port's Roles in force include one that the kind asks for (R184 check 2). -/
def State.mayAsk (s : State) (p : Port) (k : ReqKind) : Bool :=
  match k.roles with
  | none => true
  | some rs => (s.mc.ports.get p).roles &&& rs != 0

/-- What the owning rule answers: the event with all its changes made, the result code and the fields after it. -/
structure Answer where
  work    : Work
  result  : ResultCode
  payload : Payload

/-- A refusal: nothing has changed and no field follows the code. -/
def refuse (r : ResultCode) (w : Work) : Answer := ⟨w, r, .empty⟩

/-- An acceptance with the fields given, after the pass and the arbitration that the event calls for. -/
def accept (r : ResultCode) (p : Payload) (w : Work) : Answer := ⟨w.finish, r, p⟩

/-- The kind byte of a response: the request's kind plus 40h (R185). -/
def responseKind (kind : Byte) : Byte := kind + 0x40

/-- The end of a request's event: the response takes its place, and then the notices take theirs (R185, R186). DEDUCED
(assumption 26): the response stands first in its port's queue where the owning rule does not place it too, as for the
STEP notice of REOPEN (R132), the HALT notice of RUNNER_DUTY off and CANCEL (R109, R106) and the SPACE notices of the pass
of ZONE_STATE and SPACE_SERVICE (R12, R14). -/
def respond (p : Port) (kind tag : Byte) (a : Answer) : State :=
  Work.close
    { a.work with
      slu := a.work.slu.set p ((a.work.slu.get p).pushResponse (.response (responseKind kind) tag a.result a.payload)) }

/-- The checks of role, mode and fields in the order of R184, and the owner's answer; `owner` is `none` when a field
is out of range. -/
def checked (p : Port) (k : ReqKind) (owner : Option (Work → Answer)) (w : Work) : Answer :=
  if !w.mayAsk p k then refuse .notPermitted w
  else
    match modeRefusal k w.mc.mode with
    | some r => refuse r w
    | none =>
      match owner with
      | none => refuse .badField w
      | some f => f w

/-- A request of a known kind taken on a port (R184). -/
def serve (p : Port) (tag : Byte) (k : ReqKind) (owner : Option (Work → Answer)) (s : State) : State :=
  respond p k.code tag (checked p k owner (Work.begin s))

/-- The kind byte of a BAD_KIND response (R185). -/
def badKindEcho (kind : Byte) : Byte := if 0x60 ≤ kind.toNat ∧ kind.toNat ≤ 0x66 then 0xFF else kind + 0x40

/-- A request whose kind is no request kind, answered BAD_KIND (R184 check 1, R185). -/
def takeBadKind (p : Port) (kind tag : Byte) (s : State) : State :=
  s.updLink p (StationLink.pushResponse (.response (badKindEcho kind) tag .badKind .empty))

/-- A port may take a waiting or arriving frame: its transmit queue holds fewer than 16 (R183). -/
def StationLink.mayTake (l : StationLink) : Bool := l.tx.length < Config.txCapacity

/-- A complete frame joins the receive buffer, or is discarded when two are waiting (R183). -/
def StationLink.store (body : List Byte) (l : StationLink) : StationLink :=
  if l.buffer.length < Config.rxCapacity then { l with buffer := l.buffer ++ [body] } else l

/-- A request frame completes on a port: it is taken at once when nothing waits before it and the port may take it,
and otherwise joins the receive buffer (R183; assumption 1). A line held low brings no frame (R187). -/
def offer (p : Port) (body : List Byte) (taken : State → State) (s : State) : State :=
  if !s.live || (s.slu.get p).lineLow then s
  else
    let s1 := s.updLink p fun l => { l with receiver := .hunting }
    if (s.slu.get p).buffer.isEmpty && (s.slu.get p).mayTake then taken s1 else s1.updLink p (StationLink.store body)

end Sys2Proof.Machine
end

