-- ==== Sys2Proof/Machine/Custody.lean ====
section
/-! DEFINITION. ISSUE, AMEND and QUERY_TICKET (chapter 2). -/

namespace Sys2Proof.Machine

/-! ## ISSUE -/

/-- The number that follows, 65535 being followed by 1 (R21). -/
def nextNumber (n : TicketNo) : TicketNo := if n = 0xFFFF then 1 else n + 1

/-- The first number from `n` on that no record carries (R21). The first argument bounds the numbers skipped. -/
def freeNumber (used : List TicketNo) : Nat → TicketNo → TicketNo
  | 0, n => n
  | k + 1, n => if used.contains n then freeNumber used k (nextNumber n) else n

/-- The number ISSUE gives (R21): at most 511 are skipped. -/
def CustodyTable.chooseNumber (ct : CustodyTable) : TicketNo :=
  freeNumber (ct.tickets.map Ticket.number) Config.maxTickets ct.nextNumber

/-- A record put at its place in ascending TicketNumber. -/
def insertTicket (t : Ticket) (ts : List Ticket) : List Ticket :=
  (ts.takeWhile fun x => x.number.toNat < t.number.toNat) ++ t :: ts.dropWhile fun x => x.number.toNat < t.number.toNat

/-- The record created by an ISSUE, before the allocation (R24). -/
def newTicket (s : State) (p : Port) (c : CarClass) (pr : Level) (guest : Option (BitVec 16))
    (offset : Option (BitVec 16)) (sec : Option Section4) : Ticket :=
  { number := s.ct.chooseNumber, state := .awaitingSpace, formerState := none, carClass := c, priority := pr,
    guestRef := guest, departure := offset.map (departureOf s.tb.minute),
    curbSection := sec.getD (s.mc.ports.get p).defaultSection, issuePort := p, arrival := s.tb.minute,
    space := none, nextSpace := none, key := .noneYet, bay := none, run := none, prestageDone := false }

/-- A record created, and the counter set to the number that follows (R21, R24). -/
def Work.createTicket (t : Ticket) (w : Work) : Work :=
  { w with ct := ⟨insertTicket t w.ct.tickets, nextNumber t.number⟩ }

/-- The placement of a ticket just issued (R25). -/
def Work.placeNew (t : Ticket) (w : Work) : Work :=
  match w.allocate t none with
  | some sp => (w.hold t.number .space sp).updTicket t.number fun t => { t with state := .inbound }
  | none => w.joinQueue t.number

/-- The response to an ISSUE (R26). -/
def issueAnswer (t : Ticket) (w : Work) : Answer :=
  let sp := (w.ticket? t.number).bind Ticket.space
  accept (if sp.isSome then .ok else .waiting)
    (.issue t.number (encodeTag t.number) t.departure t.curbSection sp (sp.bind w.zoneNo?)) w

/-- ISSUE as its owner takes it (R21 to R27). -/
def ownIssue (p : Port) (c : CarClass) (pr : Level) (guest : Option (BitVec 16)) (offset : Option (BitVec 16))
    (sec : Option Section4) (w : Work) : Answer :=
  if Config.maxTickets ≤ w.ct.tickets.length then refuse .full w
  else
    let t := newTicket w.toState p c pr guest offset sec
    issueAnswer t ((w.createTicket t).placeNew t)

/-- ISSUE taken on a port (R23). -/
def takeIssue (p : Port) (tag carClass priority : Byte) (guestRef : BitVec 16) (departureGiven : Byte)
    (offset : BitVec 16) (sec : Byte) : State → State :=
  serve p tag .issue do
    let c ← carClass? carClass
    let pr ← level? priority
    let given ← flag? departureGiven
    let sc ← optSection? sec
    some (ownIssue p c pr (guestRefOf guestRef) (if given then some offset else none) sc)

/-- ISSUE (R23). -/
def execIssue (p : Port) (tag carClass priority : Byte) (guestRef : BitVec 16) (departureGiven : Byte)
    (offset : BitVec 16) (sec : Byte) (s : State) : Host.Outcome State Fault Refusal :=
  .next (offer p (requestBody (.issue p tag carClass priority guestRef departureGiven offset sec))
    (takeIssue p tag carClass priority guestRef departureGiven offset sec) s)

/-! ## AMEND -/

/-- A ticket with its departure item applied (R28): an item present also clears PrestageDone. -/
def DepartureItem.apply (now : Nat) (d : DepartureItem) (t : Ticket) : Ticket :=
  match d with
  | .keep => t
  | .set o => { t with departure := some (departureOf now o), prestageDone := false }
  | .clear => { t with departure := none, prestageDone := false }

/-- A ticket with the items of an AMEND applied (R28). -/
def Ticket.amend (now : Nat) (d : DepartureItem) (guest : Option (Option (BitVec 16))) (pr : Option Level)
    (t : Ticket) : Ticket :=
  { d.apply now t with guestRef := guest.getD t.guestRef, priority := pr.getD t.priority }

/-- AMEND as its owner takes it (R28, R29). -/
def ownAmend (n : TicketNo) (d : DepartureItem) (guest : Option (Option (BitVec 16))) (pr : Option Level)
    (w : Work) : Answer :=
  match w.ticket? n with
  | none => refuse .noTicket w
  | some t =>
    let t' := t.amend w.tb.minute d guest pr
    accept .ok (.amend t'.departure t'.guestRef t'.priority t'.prestageDone)
      (w.updTicket n (Ticket.amend w.tb.minute d guest pr))

/-- AMEND taken on a port (R28). -/
def takeAmend (p : Port) (tag : Byte) (n : TicketNo) (action : Byte) (offset : BitVec 16) (guestGiven : Byte)
    (guestRef : BitVec 16) (priority : Byte) : State → State :=
  serve p tag .amend do
    let n ← present? n
    let d ← departureItem? action offset
    let g ← flag? guestGiven
    let pr ← optLevel? priority
    some (ownAmend n d (if g then some (guestRefOf guestRef) else none) pr)

/-- AMEND (R28). -/
def execAmend (p : Port) (tag : Byte) (n : TicketNo) (action : Byte) (offset : BitVec 16) (guestGiven : Byte)
    (guestRef : BitVec 16) (priority : Byte) (s : State) : Host.Outcome State Fault Refusal :=
  .next (offer p (requestBody (.amend p tag n action offset guestGiven guestRef priority))
    (takeAmend p tag n action offset guestGiven guestRef priority) s)

/-! ## QUERY_TICKET -/

/-- The items of the Dispatch Arbiter that go with a record (R30). -/
def State.ticketReport (s : State) (t : Ticket) : Payload :=
  let e := s.recall? t.number
  .ticket t e.isSome (e.map Entry.kind) (e.map Entry.level) (e.bind s.blockedReason)
    ((s.targetRun? t.number).map fun x => x.2.kind) (s.eta t.number)

/-- QUERY_TICKET by number as its owner takes it (R30). -/
def ownQueryTicketByNumber (n : TicketNo) (w : Work) : Answer :=
  match w.ticket? n with
  | none => refuse .noTicket w
  | some t => accept .ok (w.ticketReport t) w

/-- QUERY_TICKET by number taken on a port (R30). -/
def takeQueryTicketByNumber (p : Port) (tag : Byte) (n : TicketNo) : State → State :=
  serve p tag .queryTicket ((present? n).map ownQueryTicketByNumber)

/-- QUERY_TICKET by number (R30). -/
def execQueryTicketByNumber (p : Port) (tag : Byte) (n : TicketNo) (start : BitVec 16) (s : State) :
    Host.Outcome State Fault Refusal :=
  .next (offer p (requestBody (.queryTicketByNumber p tag n start)) (takeQueryTicketByNumber p tag n) s)

/-- The records that carry a guest reference, in ascending TicketNumber (R31). -/
def State.guestTickets (s : State) (g : BitVec 16) : List Ticket :=
  s.ct.tickets.filter fun t => t.guestRef == some g

/-- One match of the list (R31). -/
def State.matchOf (s : State) (t : Ticket) : TicketMatch :=
  ⟨t.number, t.state, t.key, (s.recall? t.number).isSome, s.eta t.number⟩

/-- QUERY_TICKET by guest reference as its owner takes it (R31). -/
def ownQueryTicketByGuest (g start : BitVec 16) (w : Work) : Answer :=
  let all := w.guestTickets g
  if all.isEmpty then refuse .noTicket w
  else
    accept .ok (.matches_ all.length
      (((all.filter fun t => start.toNat ≤ t.number.toNat).take Config.maxMatches).map w.matchOf)) w

/-- QUERY_TICKET by guest reference taken on a port (R31). -/
def takeQueryTicketByGuest (p : Port) (tag : Byte) (g start : BitVec 16) : State → State :=
  serve p tag .queryTicket ((present? g).map fun g => ownQueryTicketByGuest g start)

/-- QUERY_TICKET by guest reference (R31). -/
def execQueryTicketByGuest (p : Port) (tag : Byte) (g start : BitVec 16) (s : State) :
    Host.Outcome State Fault Refusal :=
  .next (offer p (requestBody (.queryTicketByGuest p tag g start)) (takeQueryTicketByGuest p tag g start) s)

end Sys2Proof.Machine
end

