-- ==== Sys2Proof/Machine/Bays.lean ====
section
/-! DEFINITION. STAGED, HANDOVER, RETURN_CAR and BAY_HOLD (sections 2.7, 8.4 and 8.5). -/

namespace Sys2Proof.Machine

/-! ## STAGED -/

/-- A ticket may be reported STAGED (R149 check 3). -/
def Ticket.mayStage (t : Ticket) : Bool :=
  t.state == .outbound || (t.state == .unconfirmed && t.formerState == some .outbound)

/-- A bay takes a STAGED report of a ticket (R149 check 4). -/
def Bay.takes (k : Bay) (n : TicketNo) : Bool :=
  k.condition == .empty || (k.condition == .incoming && k.incoming == some n)

/-- The reservation of a car staged elsewhere (R150 step 1). -/
def Work.revertOther (t : Ticket) (b : BayNo) (w : Work) : Work :=
  match t.bay with
  | some b0 => if b0 = b then w else w.revertBay b0 t.number
  | none => w

/-- GuestCalled of a car just staged (R150 step 2). -/
def State.stagedCalled (s : State) (t : Ticket) : Bool :=
  t.state == .unconfirmed || (s.targetRun? t.number).any fun x => x.2.kind == .retrieve

/-- The bay and the run of a car just staged (R150 step 2, R122). -/
def Work.stageBay (t : Ticket) (b : BayNo) (w : Work) : Work :=
  let called := w.stagedCalled t
  let w1 := w.updBay b fun _ => ⟨.occupied, some t.number, none, called, false, false⟩
  match w1.targetRun? t.number with
  | some (r, _) => w1.updRun r fun q => { q with bay := some b }
  | none => w1

/-- The ticket of a car just staged (R150 step 3). -/
def Work.stageTicket (n : TicketNo) (b : BayNo) (w : Work) : Work :=
  (((w.updTicket n fun t => { t with state := .staged, formerState := none, bay := some b }).moveKeyOff n
    .atTray).releaseClaim n .space).releaseClaim n .nextSpace

/-- The pending RETRIEVE entry of an UNCONFIRMED ticket (R150 step 4). -/
def State.staleEntry (s : State) (t : Ticket) : Option Entry :=
  if t.state = .unconfirmed then (s.recall? t.number).filter fun e => e.kind == .retrieve else none

/-- Steps 4 to 6 of R150: the entry, the READY notice and the completion, in the order of their notices. -/
def Work.stageRun (t : Ticket) (b : BayNo) (w : Work) : Work :=
  let notify := ((w.staleEntry t).map Entry.notify).getD 0
  let w1 := if (w.staleEntry t).isSome then w.dropEntry t.number else w
  match w1.targetRun? t.number with
  | some (r, run) =>
    (w1.emitReady (w1.portsWith .podium ||| notify ||| run.notify) t.number b .staged).completeRun r .staged
  | none => w1.emitReady (w1.portsWith .podium ||| notify) t.number b .staged

/-- STAGED as its owner takes it (R149, R150). -/
def ownStaged (n : TicketNo) (b : BayNo) (w : Work) : Answer :=
  match w.ticket? n with
  | none => refuse .noTicket w
  | some t =>
    if !t.mayStage then refuse .badState w
    else if !(w.bay b).takes n then refuse .bayBusy w
    else
      accept .ok (.staged n b (w.stagedCalled t)) ((((w.revertOther t b).stageBay t b).stageTicket n b).stageRun t b)

/-- STAGED taken on a port (R149). -/
def takeStaged (p : Port) (tag : Byte) (n : TicketNo) (bay : Byte) : State → State :=
  serve p tag .staged do
    let n ← present? n
    let b ← bay? bay
    some (ownStaged n b)

/-- STAGED (R149). -/
def execStaged (p : Port) (tag : Byte) (n : TicketNo) (bay : Byte) (s : State) : Host.Outcome State Fault Refusal :=
  .next (offer p (requestBody (.staged p tag n bay)) (takeStaged p tag n bay) s)

/-! ## HANDOVER -/

/-- The key of a freed record (R33). -/
def Work.freeKey (t : Ticket) (w : Work) : Work :=
  match t.key with
  | .onHook h => w.strayHook h
  | _ => w

/-- The record removed, and KEY_MISSING evaluated again when its key was MISSING (R32 step 5, R33). -/
def Work.removeTicket (t : Ticket) (w : Work) : Work :=
  let w1 : Work := { w with ct := { w.ct with tickets := w.ct.tickets.filter fun x => x.number != t.number } }
  if t.key = .missing then w1.evalKeyMissing t.number false else w1

/-- The bay named by the Bay of a ticket handed over (R153). -/
def Work.leaveBay (t : Ticket) (w : Work) : Work :=
  match t.bay with
  | some b => w.handoverBay b t.number
  | none => w

/-- A record freed (R32). -/
def Work.freeRecord (t : Ticket) (w : Work) : Work :=
  let w1 := (w.releaseClaim t.number .space).releaseClaim t.number .nextSpace
  ((((w1.leaveBay t).dropEntry t.number).leaveQueue t.number).freeKey t).removeTicket t

/-- HANDOVER as its owner takes it (R153, R32). DESIGN CHOICE (assumption 25): 'the bay left' in the response is the bay
that the ticket's Bay names, even one that does not name the ticket and is not changed (the row 'any other' of R153, a
reservation lost by R152); it is absent when Bay is. -/
def ownHandover (n : TicketNo) (w : Work) : Answer :=
  match w.ticket? n with
  | none => refuse .noTicket w
  | some t =>
    if t.state = .staged ∨ t.state = .unconfirmed then accept .ok (.handover n t.bay) (w.freeRecord t)
    else refuse .badState w

/-- HANDOVER taken on a port (R153). -/
def takeHandover (p : Port) (tag : Byte) (n : TicketNo) : State → State :=
  serve p tag .handover ((present? n).map ownHandover)

/-- HANDOVER (R153). -/
def execHandover (p : Port) (tag : Byte) (n : TicketNo) (s : State) : Host.Outcome State Fault Refusal :=
  .next (offer p (requestBody (.handover p tag n)) (takeHandover p tag n) s)

/-! ## RETURN_CAR -/

/-- The bay of a car to be sent back: its marks cleared, and EntryMade cleared when the entry merges (R154). -/
def Work.returnCarBay (b : BayNo) (merged : Bool) (w : Work) : Work :=
  w.updBay b fun k => { k with guestCalled := false, locked := false, entryMade := k.entryMade && !merged }

/-- RETURN_CAR as its owner takes it (R154). DESIGN CHOICE (assumption 11): the Level in the response is that of the
entry once it is made or merged and before the arbitration it triggers, which may grant the entry or lower its Level by
an eviction. -/
def ownReturnCar (p : Port) (n : TicketNo) (w : Work) : Answer :=
  match w.ticket? n with
  | none => refuse .noTicket w
  | some t =>
    match t.state, t.bay with
    | .staged, some b =>
      let merged := w.returnPending n
      let w1 := (w.returnCarBay b merged).askReturn n (w.mc.ports.get p).baseLevel (baySection b)
      accept (if merged then .merged else .ok) (.returnCar n ((w1.recall? n).map Entry.level)) w1
    | _, _ => refuse .badState w

/-- RETURN_CAR taken on a port (R154). -/
def takeReturnCar (p : Port) (tag : Byte) (n : TicketNo) : State → State :=
  serve p tag .returnCar ((present? n).map (ownReturnCar p))

/-- RETURN_CAR (R154). -/
def execReturnCar (p : Port) (tag : Byte) (n : TicketNo) (s : State) : Host.Outcome State Fault Refusal :=
  .next (offer p (requestBody (.returnCar p tag n)) (takeReturnCar p tag n) s)

/-! ## BAY_HOLD -/

/-- The response to an accepted BAY_HOLD, read after the event's arbitration (R155; assumption 11). -/
def bayAnswer (b : BayNo) (w : Work) : Answer :=
  let w1 := w.finish
  let k := w1.bay b
  ⟨w1, .ok, .bay k.condition k.occupant k.guestCalled k.locked⟩

/-- BAY_HOLD set as its owner takes it (R155). -/
def ownBayHoldSet (b : BayNo) (w : Work) : Answer :=
  if (w.bay b).condition ≠ .occupied then refuse .badState w
  else bayAnswer b (w.updBay b fun k => { k with locked := true })

/-- BAY_HOLD clear as its owner takes it; a bay that becomes evictable is a release (R155). -/
def ownBayHoldClear (b : BayNo) (w : Work) : Answer :=
  if (w.bay b).condition ≠ .occupied then refuse .badState w
  else
    let w1 := w.updBay b fun k => { k with locked := false }
    bayAnswer b (w1.triggerIf (!(w.bay b).evictable && (w1.bay b).evictable))

/-- BAY_HOLD set taken on a port (R155). -/
def takeBayHoldSet (p : Port) (tag bay : Byte) : State → State :=
  serve p tag .bayHold ((bay? bay).map ownBayHoldSet)

/-- BAY_HOLD clear taken on a port (R155). -/
def takeBayHoldClear (p : Port) (tag bay : Byte) : State → State :=
  serve p tag .bayHold ((bay? bay).map ownBayHoldClear)

/-- BAY_HOLD set (R155). -/
def execBayHoldSet (p : Port) (tag bay : Byte) (s : State) : Host.Outcome State Fault Refusal :=
  .next (offer p (requestBody (.bayHoldSet p tag bay)) (takeBayHoldSet p tag bay) s)

/-- BAY_HOLD clear (R155). -/
def execBayHoldClear (p : Port) (tag bay : Byte) (s : State) : Host.Outcome State Fault Refusal :=
  .next (offer p (requestBody (.bayHoldClear p tag bay)) (takeBayHoldClear p tag bay) s)

end Sys2Proof.Machine
end

