-- ==== Sys2Proof/Machine/Cabinet.lean ====
section
/-! DEFINITION. The cabinet events: HUNG, LIFTED and SENSOR_FAULT (sections 4.3, 4.4 and 5.3). -/

namespace Sys2Proof.Machine

/-- A sensor report that contradicts the record: Faulty is set and HOOK_FAULT raised (R67, R71, R72, R92). -/
def Work.hookFault (h : HookNo) (w : Work) : Work :=
  (w.updHook h fun k => { k with faulty := true }).raise .hookFault (.hook h)

/-- A key becomes recorded on a hook: HOLDING with the ticket, KeyPlace ON_HOOK, an arbitration trigger (R61, R68). -/
def Work.hookHolds (h : HookNo) (n : TicketNo) (w : Work) : Work :=
  ((w.updHook h fun k => { k with occ := .holding n }).setKey n (.onHook h)).trigger

/-- The ticket of a decoded number may take its key onto a hook (the last row of R68's table). -/
def Ticket.mayHang (t : Ticket) (h : HookNo) : Bool :=
  (match t.key with | .onHook g => g == h | _ => true) && t.state != .outbound && t.state != .staged

/-- The second stage of a HUNG, on an EMPTY hook (R68). -/
def Work.hungOnEmpty (h : HookNo) (sl : Slot) (field : BitVec 24) (w : Work) : Work :=
  let w1 := w.noteDecode sl field
  match decodeTag (readWord field) with
  | none => (w1.updHook h fun k => { k with occ := .unverified }).raise .tagUnreadable (.hook h)
  | some n =>
    if (w1.ticket? n).any fun t => t.mayHang h then w1.hookHolds h n
    else (w1.updHook h fun k => { k with occ := .stray }).raise .strayKey (.hook h)

/-- A HUNG on the spare slot of an open carry closes it (R91). -/
def Work.carryRehang (h : HookNo) (n : TicketNo) (carry : Fin 34) (sl : Slot) (field : BitVec 24) (w : Work) : Work :=
  let w1 := w.noteDecode sl field
  let close (o : Occupancy) (w : Work) : Work :=
    ((w.updHook h fun k => { k with occ := o }).syncSlot ⟨hookBank h, carry⟩).syncHook h
  match decodeTag (readWord field) with
  | none => ((close .unverified w1).raise .tagUnreadable (.hook h)).setKey n .missing
  | some m =>
    if m = n then (close (.holding n) w1).trigger
    else ((close .stray w1).raise .strayKey (.hook h)).setKey n .missing

/-- A HUNG on the spare slot of a carry's hook, by its record. -/
def Work.hungOnSpare (h : HookNo) (sl : Slot) (field : BitVec 24) (w : Work) : Work :=
  match (w.hook h).occ with
  | .awaitRehang n c => w.carryRehang h n c sl field
  | _ => w

/-- A HUNG event (R67, R85, R90, R91). -/
def Work.takeHung (sl : Slot) (field : BitVec 24) (w : Work) : Work :=
  match w.slotOwner sl with
  | .unmapped | .carrySlot _ => w
  | .carrySpare h => w.hungOnSpare h sl field
  | .hook h =>
    if (w.hook h).retired then w
    else if (w.hook h).occ = .empty then w.hungOnEmpty h sl field
    else w.hookFault h

/-- A hook becomes EMPTY, any window ended, and its slot commanded as R62 asks (R69, R71). -/
def Work.emptyHook (h : HookNo) (w : Work) : Work :=
  (w.updHook h fun k => { k with occ := .empty, openForRemoval := false, windowLeft := 0 }).syncHook h

/-- A lift of a RELEASED key (R69). -/
def Work.liftReleased (h : HookNo) (n : TicketNo) (w : Work) : Work :=
  ((w.emptyHook h).setKey n .taken).stepLifted n

/-- A forced lift of a HOLDING key (R70). -/
def Work.liftHolding (h : HookNo) (n : TicketNo) (w : Work) : Work :=
  let w1 := (w.emptyHook h).raise .forcedLift (.ticket n)
  if w.currentIs n .lapsed then (w1.setKey n .taken).stepLifted n else w1.setKey n .missing

/-- A LIFTED event (R69, R70, R71, R85, R90, R92). -/
def Work.takeLifted (sl : Slot) (w : Work) : Work :=
  match w.slotOwner sl with
  | .unmapped | .carrySlot _ => w
  | .carrySpare h => w.hookFault h
  | .hook h =>
    if (w.hook h).retired then w
    else
      match (w.hook h).occ with
      | .released n => w.liftReleased h n
      | .holding n => w.liftHolding h n
      | .unverified | .stray =>
        if (w.hook h).openForRemoval then w.emptyHook h
        else (w.raise .forcedLift (.hook h)).emptyHook h
      | .empty | .awaitRehang _ _ => w.hookFault h

/-- A SENSOR_FAULT event (R72, R85, R90, R92). -/
def Work.takeSensorFault (sl : Slot) (w : Work) : Work :=
  match w.slotOwner sl with
  | .unmapped | .carrySlot _ => w
  | .carrySpare h => w.hookFault h
  | .hook h => if (w.hook h).retired then w else w.hookFault h

/-- A release that lapses: the hook returns to HOLDING and is latched, and the step is told (R74). -/
def Work.lapse (h : HookNo) (n : TicketNo) (w : Work) : Work :=
  (((w.updHook h fun k => { k with occ := .holding n, windowLeft := 0 }).syncHook h).raise .releaseLapsed
    (.ticket n)).stepLapsed n |>.trigger

/-- A removal window that runs out (R80). -/
def Work.closeRemoval (h : HookNo) (w : Work) : Work :=
  (w.updHook h fun k => { k with openForRemoval := false, windowLeft := 0 }).syncHook h

/-- The count of a service tick on one hook (R74, R80). -/
def Work.tickHook (w : Work) (h : HookNo) : Work :=
  match (w.hook h).windowLeft with
  | 0 => w
  | 1 =>
    match (w.hook h).occ with
    | .released n => w.lapse h n
    | _ => w.closeRemoval h
  | k + 2 => w.updHook h fun x => { x with windowLeft := k + 1 }

end Sys2Proof.Machine
end

