-- ==== Sys2Proof/Machine/Resets.lean ====
section
/-! DEFINITION. Resets, the warm-reset custody adjustments and the supply (sections 10.2 and 10.4, and the reset values
of every chapter). -/

namespace Sys2Proof.Machine

/-- The MODE notice to every port (R168). -/
def Work.emitMode (w : Work) : Work :=
  w.emit (portsWhere fun _ => true) (.mode w.mc.mode w.mc.cause w.tb.minute)

/-- The settings store tested and the configuration loaded (R170). -/
def loadStore (storePasses : Bool) (mc : ModeControl) : ModeControl :=
  let store := if storePasses then mc.store else none
  let cfg := store.getD defaultConfig
  { mc with store := store, storeValid := store.isSome, working := cfg, ports := cfg.ports, params := cfg.params }

/-- The enable sets of a table of port records (R166, R170). -/
def enablesOf (ports : Table 4 PortRec) : Table 4 (BitVec 11) := ports.map PortRec.alertEnables

/-- The condition flags evaluated at the end of a reset (R167). -/
def Work.evalConditionsAtReset (w : Work) : Work :=
  let w1 := match w.sa.waitQueue with
    | n :: _ => w.alertBegins .spaceWait (.ticket n)
    | [] => w
  match w1.ct.tickets.find? fun t => t.key == .missing with
  | some t => w1.alertBegins .keyMissing (.ticket t.number)
  | none => w1

/-- Every link unit emptied, its line as it stands (R169). -/
def Work.resetLinks (w : Work) : Work := { w with slu := w.slu.map fun l => resetLink l.lineLow }

/-! ## Cold -/

/-- Every custody block takes its cold values and the commit mark is erased (R16, R34, R58, R81, R82, R96, R120, R157,
R160, R167, R169). -/
def Work.coldBlocks (cause : ResetCause) (w : Work) : Work :=
  { w with
    ct := coldCt, sa := coldSa, kci := coldKci, da := resetDa, fc := coldFc, tb := ⟨0, 0⟩,
    au := resetAu (enablesOf w.mc.ports),
    mc := { w.mc with mode := .setup, cause := cause, commitMark := false, retainedValid := false, scanBank := none,
                      scanWaited := 0, silentBanks := 0 } }

/-- A power-on or reset-line cold reset (R169). -/
def Work.coldReset (cause : ResetCause) (storePasses : Bool) (w : Work) : Work :=
  (((w.updMc (loadStore storePasses)).coldBlocks cause).resetLinks).emitMode

/-! ## Warm -/

/-- A ticket's State after step 1 of R176. -/
def Ticket.unsettle (t : Ticket) : Ticket :=
  match t.state with
  | .relocating => { t with state := .unconfirmed, formerState := some .relocating }
  | .outbound => { t with state := .unconfirmed, formerState := some .outbound }
  | .returning => { t with state := .unconfirmed, formerState := some .returning }
  | _ => t

/-- The tickets of the Custody Table changed alike. -/
def Work.mapTickets (f : Ticket → Ticket) (w : Work) : Work :=
  { w with ct := { w.ct with tickets := w.ct.tickets.map f } }

/-- The NextSpace of a PARKED ticket released, with its space (R176 step 2). -/
def Work.releaseUnlifted (w : Work) (t : Ticket) : Work :=
  if t.state = .parked then w.releaseClaim t.number .nextSpace else w

/-- A ticket is UNCONFIRMED. -/
def State.isUnconfirmed (s : State) (n : TicketNo) : Bool :=
  (s.ticket? n).any fun t => t.state == .unconfirmed

/-- A ticket's Bay made absent. -/
def Work.clearBayOf (n : TicketNo) (w : Work) : Work := w.updTicket n fun t => { t with bay := none }

/-- One bay adjusted at a warm reset: the first row of R157 that fits. -/
def Work.adjustBay (w : Work) (b : BayNo) : Work :=
  let k := w.bay b
  match k.condition, k.occupant, k.incoming with
  | .incoming, _, some x =>
    if w.isUnconfirmed x then w else (w.updBay b fun _ => emptyBay).clearBayOf x
  | .clearing, some y, inc =>
    let w1 := match inc with
      | some x => if w.isUnconfirmed x then w else w.clearBayOf x
      | none => w
    if (w.ticket? y).any fun t => t.state == .staged then
      w1.updBay b fun k =>
        { k with condition := .occupied, incoming := none, guestCalled := false, locked := false, entryMade := false }
    else
      w1.updBay b fun k => { k with incoming := inc.filter w.isUnconfirmed }
  | _, _, _ => w

/-- A PARKED ticket whose Bay names a bay that does not name it loses it (the last paragraph of R157). -/
def State.settleStaleBay (s : State) (t : Ticket) : Ticket :=
  match t.bay with
  | some b =>
    if t.state = .parked ∧ (s.bay b).occupant ≠ some t.number ∧ (s.bay b).incoming ≠ some t.number then
      { t with bay := none }
    else t
  | none => t

/-- A hook after a warm reset (R81). -/
def Hook.warm (k : Hook) : Hook :=
  { k with
    occ := match k.occ with | .released n => .holding n | o => o,
    openForRemoval := false, windowLeft := 0 }

/-- The slot of an index among the commanded latch states. -/
def slotOf (i : Fin 544) : Slot := ⟨⟨i.val / 34, by omega⟩, ⟨i.val % 34, by omega⟩⟩

/-- Every slot commanded anew after a reset (R82). -/
def Work.commandAll (w : Work) : Work :=
  { w with kci := { w.kci with
      latched := Table.ofFn fun i => w.wantLatched (slotOf i),
      commands := allSlots.map fun sl => if w.wantLatched sl then .latch sl else .unlatch sl } }

/-- The retained Key Cabinet Interface after a warm reset (R66, R81, R188, R189). -/
def Work.warmKci (w : Work) : Work :=
  { w with kci := { w.kci with hooks := w.kci.hooks.map Hook.warm, latch := clearLatch, receiver := .hunting,
                               buffer := [], commands := [], lineOut := [] } }

/-- Steps 1 to 4 of the warm-reset custody adjustments (R176). -/
def Work.adjustCustody (w : Work) : Work :=
  let w1 := w.mapTickets Ticket.unsettle
  let w2 := w1.ct.tickets.foldl Work.releaseUnlifted w1
  let w3 := (w2.mapTickets fun t => { t with run := none }).mapLanes fun l => { l with shuffle := none }
  let w4 := (List.finRange 8).foldl Work.adjustBay w3
  w4.mapTickets w4.settleStaleBay

/-- The bank scan starts with bank 0 (R177). -/
def Work.startScan (w : Work) : Work :=
  (w.updMc fun mc => { mc with scanBank := some 0, scanWaited := 0, silentBanks := 0 }).queueScan 0

/-- A warm reset (R169, R176, R177). -/
def Work.warmReset (cause : ResetCause) (storePasses : Bool) (w : Work) : Work :=
  let w1 := w.updMc fun mc => { loadStore storePasses mc with mode := .recovery, cause := cause, retainedValid := true }
  let w2 : Work := { w1 with da := resetDa, tb := { w1.tb with phase := 0 }, au := resetAu (enablesOf w1.mc.ports) }
  ((w2.adjustCustody.warmKci).commandAll.resetLinks.emitMode).evalConditionsAtReset.startScan

/-! ## The commands -/

/-- A reset classified by retained memory and taken (R169). -/
def takeReset (warm cold : ResetCause) (retainedPasses storePasses : Bool) (s : State) : State :=
  let w := Work.begin s
  if retainedPasses && s.mc.commitMark then (w.warmReset warm storePasses).close
  else (w.coldReset cold storePasses).close

/-- POWER_ON (R169): the supply returns and a power-on reset is taken. -/
def execPowerOn (retainedPasses storePasses : Bool) (s : State) : Host.Outcome State Fault Refusal :=
  .next (takeReset .powerWarm .powerCold retainedPasses storePasses { s with powered := true })

/-- RESET_LINE (R169): the line is asserted and held, and a reset is taken when the part is powered. -/
def execResetLine (retainedPasses storePasses : Bool) (s : State) : Host.Outcome State Fault Refusal :=
  .next (if s.powered then takeReset .lineWarm .lineCold retainedPasses storePasses { s with held := true }
    else { s with held := true })

/-- RESET_LINE_RELEASE (R158): the held line is released, and the time base starts again from phase 0. -/
def execResetLineRelease (s : State) : Host.Outcome State Fault Refusal :=
  .next (if s.held then { s with held := false, tb := { s.tb with phase := 0 } } else s)

/-- POWER_LOSS (R160, section 2.4): the part stops and its volatile state is lost; retained memory, the settings store
and the commit mark stay. The value given to what is lost is read by no rule (assumption 5). -/
def execPowerLoss (s : State) : Host.Outcome State Fault Refusal :=
  .next
    { s with
      powered := false, da := resetDa, au := resetAu (Table.replicate 4 0), tb := { s.tb with phase := 0 },
      kci := { s.kci with commands := [], receiver := .hunting, buffer := [], lineOut := [] },
      mc := { s.mc with mode := .setup, working := defaultConfig, ports := defaultPorts, params := defaultParams,
                        scanBank := none, scanWaited := 0, silentBanks := 0 },
      slu := s.slu.map fun l => resetLink l.lineLow }

end Sys2Proof.Machine
end

