-- ==== Sys2Proof/Machine/Configure.lean ====
section
/-! DEFINITION. CONFIGURE, TUNE, COMMIT_SETUP, COLD_START, CLEAR_ALERT and STATUS (sections 1.1, 9.3 and chapter 10). -/

namespace Sys2Proof.Machine

/-! ## CONFIGURE -/

/-- The zone record of a ZONE item, when checks 2 to 6 of R2 pass; Walk is clamped and not refused. -/
def zoneRec? (base size : Nat) (depth walk zoneClass : Byte) (teams : Table 4 (Option Team)) : Option ZoneRec := do
  let c ← zoneClass? zoneClass
  if size ∈ [16, 32, 64, 128, 256, 512] ∧ depth.toNat ∈ [1, 2, 4] ∧ base % size = 0 ∧ base + size ≤ 1024 then
    some ⟨base, size, depth.toNat, clamp 1 40 walk.toNat, c, teams⟩
  else none

/-- Two windows share a space (R3). -/
def ZoneRec.overlaps (a b : ZoneRec) : Bool := a.base < b.base + b.size && b.base < a.base + a.size

/-- A window overlaps that of another present zone of a configuration (R3). -/
def Configuration.overlapsOther (cfg : Configuration) (z : ZoneNo) (r : ZoneRec) : Bool :=
  (List.finRange 8).any fun y => y != z && (cfg.zones.get y).any fun x => r.overlaps x

/-- The WorkingConfiguration changed. -/
def Work.updWorking (f : Configuration → Configuration) (w : Work) : Work :=
  w.updMc fun mc => { mc with working := f mc.working }

/-- A zone record of a configuration written. -/
def Configuration.setZone (z : ZoneNo) (r : Option ZoneRec) (cfg : Configuration) : Configuration :=
  { cfg with zones := cfg.zones.set z r }

/-- CONFIGURE ZONE as its owner takes it (R2 check 7). -/
def ownConfigureZone (z : ZoneNo) (r : ZoneRec) (w : Work) : Answer :=
  if w.mc.working.overlapsOther z r then refuse .overlap w
  else accept .ok (.walk r.walk) (w.updWorking (Configuration.setZone z (some r)))

/-- CONFIGURE ZONE taken on a port (R2). -/
def takeConfigureZone (p : Port) (tag zone : Byte) (base size : BitVec 16) (depth walk zoneClass : Byte)
    (team0 team1 team2 team3 : Byte) : State → State :=
  serve p tag .configure do
    let z ← zone? zone
    let a ← quarterTeam? team0
    let b ← quarterTeam? team1
    let c ← quarterTeam? team2
    let d ← quarterTeam? team3
    let r ← zoneRec? base.toNat size.toNat depth walk zoneClass ⟨[a, b, c, d], rfl⟩
    some (ownConfigureZone z r)

/-- CONFIGURE ZONE (R2). -/
def execConfigureZone (p : Port) (tag zone : Byte) (base size : BitVec 16) (depth walk zoneClass : Byte)
    (team0 team1 team2 team3 : Byte) (s : State) : Host.Outcome State Fault Refusal :=
  .next (offer p (requestBody (.configureZone p tag zone base size depth walk zoneClass team0 team1 team2 team3))
    (takeConfigureZone p tag zone base size depth walk zoneClass team0 team1 team2 team3) s)

/-- CONFIGURE ZONE_REMOVE as its owner takes it (R4). -/
def ownConfigureZoneRemove (z : ZoneNo) (w : Work) : Answer :=
  accept .ok .empty (w.updWorking (Configuration.setZone z none))

/-- CONFIGURE ZONE_REMOVE taken on a port (R4). -/
def takeConfigureZoneRemove (p : Port) (tag zone : Byte) : State → State :=
  serve p tag .configure ((zone? zone).map ownConfigureZoneRemove)

/-- CONFIGURE ZONE_REMOVE (R4). -/
def execConfigureZoneRemove (p : Port) (tag zone : Byte) (s : State) : Host.Outcome State Fault Refusal :=
  .next (offer p (requestBody (.configureZoneRemove p tag zone)) (takeConfigureZoneRemove p tag zone) s)

/-- CONFIGURE PORT as its owner takes it (R171). -/
def ownConfigurePort (q : Port) (r : PortRec) (w : Work) : Answer :=
  accept .ok .empty (w.updWorking fun cfg => { cfg with ports := cfg.ports.set q r })

/-- CONFIGURE PORT taken on a port (R171). -/
def takeConfigurePort (p : Port) (tag target roles baseLevel defaultSection : Byte) (alertEnables : BitVec 16) :
    State → State :=
  serve p tag .configure do
    let q ← fin? 4 target.toNat
    let rs ← roles? roles
    let bl ← level? baseLevel
    let ds ← curbSection? defaultSection
    let ae ← alertSet? alertEnables
    some (ownConfigurePort q ⟨rs, bl, ds, ae⟩)

/-- CONFIGURE PORT (R171). -/
def execConfigurePort (p : Port) (tag target roles baseLevel defaultSection : Byte) (alertEnables : BitVec 16)
    (s : State) : Host.Outcome State Fault Refusal :=
  .next (offer p (requestBody (.configurePort p tag target roles baseLevel defaultSection alertEnables))
    (takeConfigurePort p tag target roles baseLevel defaultSection alertEnables) s)

/-- CONFIGURE PARAMS as its owner takes it (R171). -/
def ownConfigureParams (q : Params) (w : Work) : Answer :=
  accept .ok (.params q) (w.updWorking fun cfg => { cfg with params := q })

/-- CONFIGURE PARAMS taken on a port (R171). -/
def takeConfigureParams (p : Port) (tag k sl window l : Byte) : State → State :=
  serve p tag .configure (some (ownConfigureParams (paramsOf k sl window l)))

/-- CONFIGURE PARAMS (R171). -/
def execConfigureParams (p : Port) (tag k sl window l : Byte) (s : State) : Host.Outcome State Fault Refusal :=
  .next (offer p (requestBody (.configureParams p tag k sl window l)) (takeConfigureParams p tag k sl window l) s)

/-! ## TUNE -/

/-- TUNE as its owner takes it (R172): the store is amended only while StoreValid is set. -/
def ownTune (q : Params) (w : Work) : Answer :=
  accept .ok (.tune q w.mc.storeValid)
    (w.updMc fun mc =>
      { mc with
        params := q, working := { mc.working with params := q },
        store := if mc.storeValid then mc.store.map fun c => { c with params := q } else mc.store })

/-- TUNE taken on a port (R172). -/
def takeTune (p : Port) (tag k sl window l : Byte) : State → State :=
  serve p tag .tune (some (ownTune (paramsOf k sl window l)))

/-- TUNE (R172). -/
def execTune (p : Port) (tag k sl window l : Byte) (s : State) : Host.Outcome State Fault Refusal :=
  .next (offer p (requestBody (.tune p tag k sl window l)) (takeTune p tag k sl window l) s)

/-! ## COMMIT_SETUP -/

/-- Some port record of a configuration holds MAINT (R173). -/
def Configuration.hasMaint (cfg : Configuration) : Bool := cfg.ports.list.any fun r => r.roles.getLsbD Role.maint.bit

/-- The zone of a configuration whose window contains a space. -/
def Configuration.zoneAt? (cfg : Configuration) (sp : SpaceNo) : Option ZoneRec :=
  (List.finRange 8).findSome? fun z =>
    (cfg.zones.get z).filter fun r => decide (r.base ≤ sp.val ∧ sp.val < r.base + r.size)

/-- The lane record that starts at a space, if one does (R8). -/
def Configuration.laneAt? (cfg : Configuration) (sp : SpaceNo) : Option Lane :=
  (cfg.zoneAt? sp).bind fun r => if sp.val % r.depth = 0 then some ⟨sp, r.depth, none⟩ else none

/-- The garage built from a configuration (R5); the wait queue is as it stands. -/
def Work.buildGarage (cfg : Configuration) (w : Work) : Work :=
  { w with sa :=
    { w.sa with
      zones := cfg.zones.map fun z => z.map fun r => ⟨r, true⟩,
      spaces := Table.ofFn fun sp => if (cfg.zoneAt? sp).isSome then .free else .unmapped,
      lanes := (List.finRange 1024).filterMap cfg.laneAt? } }

/-- Steps 1 and 2 of R173: the store, the ports, the parameters and the enable sets. -/
def Work.commitConfig (w : Work) : Work :=
  let w1 := w.updMc fun mc =>
    { mc with store := some mc.working, storeValid := true, ports := mc.working.ports, params := mc.working.params }
  Work.evalLines { w1 with au := { w1.au with enables := enablesOf w1.mc.ports } }

/-- Steps 4 and 5 of R173: the commit mark, and the change of Mode with its notice and its pass. -/
def Work.enterService (w : Work) : Work :=
  ((w.updMc fun mc => { mc with commitMark := true, retainedValid := true, mode := .service }).emitMode).needPass

/-- The count of zones present in force. -/
def State.zoneCount (s : State) : Nat := (s.sa.zones.list.filter Option.isSome).length

/-- COMMIT_SETUP as its owner takes it (R173). -/
def ownCommitSetup (w : Work) : Answer :=
  if !w.mc.working.hasMaint then refuse .badField w
  else
    let w1 := (w.commitConfig.buildGarage w.mc.working).enterService
    accept .ok (.commit w1.zoneCount w1.freeSpaces) w1

/-- COMMIT_SETUP taken on a port (R173). -/
def takeCommitSetup (p : Port) (tag : Byte) : State → State := serve p tag .commitSetup (some ownCommitSetup)

/-- COMMIT_SETUP (R173). -/
def execCommitSetup (p : Port) (tag : Byte) (s : State) : Host.Outcome State Fault Refusal :=
  .next (offer p (requestBody (.commitSetup p tag)) (takeCommitSetup p tag) s)

/-! ## COLD_START -/

/-- The configuration the part ran with (R174). -/
def State.ranWith (s : State) : Configuration :=
  ⟨s.sa.zones.map fun z => z.map Zone.toZoneRec, s.mc.ports, s.mc.params⟩

/-- The REQUEST_COLD reset (R174): the configuration and the links are kept. -/
def Work.requestCold (w : Work) : Work :=
  ((w.updMc fun mc => { mc with working := w.ranWith }).coldBlocks .requestCold).emitMode

/-- COLD_START as its owner takes it (R174). -/
def ownColdStart (w : Work) : Answer :=
  if w.ct.tickets.isEmpty then accept .ok .empty w.requestCold else refuse .badState w

/-- COLD_START taken on a port (R174). -/
def takeColdStart (p : Port) (tag : Byte) : State → State := serve p tag .coldStart (some ownColdStart)

/-- COLD_START (R174). -/
def execColdStart (p : Port) (tag : Byte) (s : State) : Host.Outcome State Fault Refusal :=
  .next (offer p (requestBody (.coldStart p tag)) (takeColdStart p tag) s)

/-! ## CLEAR_ALERT -/

/-- The flag at a place in the table of R161 is a condition flag. -/
def isConditionIdx (i : Fin 11) : Bool := i.val == 9 || i.val == 10

/-- A flag record named by a CLEAR_ALERT (R165): an event flag is cleared; a condition flag that is set counts from 0
again. -/
def AlertRec.clear (cond : Bool) (r : AlertRec) : AlertRec :=
  if !r.set then r else if cond then { r with count := 0 } else clearAlertRec

/-- The flags of a set cleared, and the lines evaluated again (R165). -/
def Work.clearAlerts (m : BitVec 11) (w : Work) : Work :=
  Work.evalLines
    { w with au := { w.au with
        flags := Table.ofFn fun i =>
          if m.getLsbD i.val then (w.au.flags.get i).clear (isConditionIdx i) else w.au.flags.get i } }

/-- CLEAR_ALERT as its owner takes it (R165). -/
def ownClearAlert (m : BitVec 11) (w : Work) : Answer :=
  let w1 := w.clearAlerts m
  accept .ok (.alerts w.au.setMask w1.au.setMask w.au.flags.list) w1

/-- CLEAR_ALERT taken on a port (R165). -/
def takeClearAlert (p : Port) (tag : Byte) (flags : BitVec 16) : State → State :=
  serve p tag .clearAlert ((alertSet? flags).map ownClearAlert)

/-- CLEAR_ALERT (R165). -/
def execClearAlert (p : Port) (tag : Byte) (flags : BitVec 16) (s : State) : Host.Outcome State Fault Refusal :=
  .next (offer p (requestBody (.clearAlert p tag flags)) (takeClearAlert p tag flags) s)

/-! ## STATUS -/

/-- The fields of a STATUS response (R180). -/
def State.statusPayload (s : State) (p : Port) : Payload :=
  .status s.mc.mode s.mc.cause s.mc.retainedValid s.mc.storeValid s.tb.minute s.ct.tickets.length
    s.sa.waitQueue.length s.da.queue.length s.onDuty s.freeSpaces s.mc.scanBank s.mc.silentBanks (s.slu.get p).overflow

/-- STATUS as its owner takes it: NoticeOverflow is read and then cleared (R180). -/
def ownStatus (p : Port) (w : Work) : Answer :=
  accept .ok (w.statusPayload p) { w with toState := w.updLink p fun l => { l with overflow := false } }

/-- STATUS taken on a port (R180). -/
def takeStatus (p : Port) (tag : Byte) : State → State := serve p tag .status (some (ownStatus p))

/-- STATUS (R180). -/
def execStatus (p : Port) (tag : Byte) (s : State) : Host.Outcome State Fault Refusal :=
  .next (offer p (requestBody (.status p tag)) (takeStatus p tag) s)

end Sys2Proof.Machine
end

