-- ==== Sys2Proof/Machine/Facility.lean ====
section
/-! DEFINITION. ZONE_STATE, SPACE_SERVICE and QUERY_SPACE (section 1.5). -/

namespace Sys2Proof.Machine

/-! ## ZONE_STATE -/

/-- Open of a zone in force written (R12). -/
def Work.setOpen (z : ZoneNo) (o : Bool) (w : Work) : Work :=
  { w with sa := { w.sa with zones := w.sa.zones.set z ((w.sa.zones.get z).map fun r => { r with isOpen := o }) } }

/-- ZONE_STATE open as its owner takes it (R12): an actual opening starts a pass and is a trigger. -/
def ownZoneOpen (z : ZoneNo) (w : Work) : Answer :=
  match w.sa.zones.get z with
  | none => refuse .badState w
  | some r => accept .ok (.zoneState z true) (if r.isOpen then w else ((w.setOpen z true).needPass).trigger)

/-- ZONE_STATE close as its owner takes it (R12). -/
def ownZoneClose (z : ZoneNo) (w : Work) : Answer :=
  match w.sa.zones.get z with
  | none => refuse .badState w
  | some _ => accept .ok (.zoneState z false) (w.setOpen z false)

/-- ZONE_STATE open taken on a port (R12). -/
def takeZoneOpen (p : Port) (tag zone : Byte) : State → State :=
  serve p tag .zoneState ((zone? zone).map ownZoneOpen)

/-- ZONE_STATE close taken on a port (R12). -/
def takeZoneClose (p : Port) (tag zone : Byte) : State → State :=
  serve p tag .zoneState ((zone? zone).map ownZoneClose)

/-- ZONE_STATE open (R12). -/
def execZoneStateOpen (p : Port) (tag zone : Byte) (s : State) : Host.Outcome State Fault Refusal :=
  .next (offer p (requestBody (.zoneStateOpen p tag zone)) (takeZoneOpen p tag zone) s)

/-- ZONE_STATE close (R12). -/
def execZoneStateClose (p : Port) (tag zone : Byte) (s : State) : Host.Outcome State Fault Refusal :=
  .next (offer p (requestBody (.zoneStateClose p tag zone)) (takeZoneClose p tag zone) s)

/-! ## SPACE_SERVICE -/

/-- A deeper position would be walled in (R13 check 4). -/
def SpaceRec.claimed : SpaceRec → Bool
  | .held _ | .occupied _ => true
  | _ => false

/-- SPACE_SERVICE out as its owner takes it (R13). -/
def ownSpaceOut (sp : SpaceNo) (w : Work) : Answer :=
  match w.spaceRec sp with
  | .unmapped => refuse .badField w
  | .free =>
    if (w.deeper sp).any fun x => (w.spaceRec x).claimed then refuse .badState w
    else accept .ok .empty (w.setSpace sp .outOfService)
  | _ => refuse .badState w

/-- SPACE_SERVICE return as its owner takes it (R14). -/
def ownSpaceReturn (sp : SpaceNo) (w : Work) : Answer :=
  match w.spaceRec sp with
  | .unmapped => refuse .badField w
  | .outOfService => accept .ok .empty (((w.setSpace sp .free).needPass).trigger)
  | _ => refuse .badState w

/-- SPACE_SERVICE out taken on a port (R13). -/
def takeSpaceOut (p : Port) (tag : Byte) (sp : BitVec 16) : State → State :=
  serve p tag .spaceService ((space? sp).map ownSpaceOut)

/-- SPACE_SERVICE return taken on a port (R14). -/
def takeSpaceReturn (p : Port) (tag : Byte) (sp : BitVec 16) : State → State :=
  serve p tag .spaceService ((space? sp).map ownSpaceReturn)

/-- SPACE_SERVICE out (R13). -/
def execSpaceServiceOut (p : Port) (tag : Byte) (sp : BitVec 16) (s : State) : Host.Outcome State Fault Refusal :=
  .next (offer p (requestBody (.spaceServiceOut p tag sp)) (takeSpaceOut p tag sp) s)

/-- SPACE_SERVICE return (R14). -/
def execSpaceServiceReturn (p : Port) (tag : Byte) (sp : BitVec 16) (s : State) : Host.Outcome State Fault Refusal :=
  .next (offer p (requestBody (.spaceServiceReturn p tag sp)) (takeSpaceReturn p tag sp) s)

/-! ## QUERY_SPACE -/

/-- The fields after Condition, empty for an UNMAPPED space (R15). -/
def State.spaceReport (s : State) (sp : SpaceNo) : Option SpaceReport :=
  match s.spaceRec sp, s.zoneOf? sp, s.laneOf? sp with
  | .unmapped, _, _ => none
  | r, some (z, zn), some l =>
    some
      { ticket := r.ticket?, claimedAs := ((r.ticket?.bind s.ticket?).bind fun t => t.claimOf? sp), zone := z,
        isOpen := zn.isOpen, cls := zn.cls, laneFront := l.front, position := sp.val - l.front.val,
        depth := zn.depth, quarter := zn.quarter sp, team := zn.preferredTeam sp, shuffle := l.shuffle }
  | _, _, _ => none

/-- QUERY_SPACE as its owner takes it (R15). -/
def ownQuerySpace (sp : SpaceNo) (w : Work) : Answer :=
  accept .ok (.space sp (w.spaceRec sp) (w.spaceReport sp)) w

/-- QUERY_SPACE taken on a port (R15). -/
def takeQuerySpace (p : Port) (tag : Byte) (sp : BitVec 16) : State → State :=
  serve p tag .querySpace ((space? sp).map ownQuerySpace)

/-- QUERY_SPACE (R15). -/
def execQuerySpace (p : Port) (tag : Byte) (sp : BitVec 16) (s : State) : Host.Outcome State Fault Refusal :=
  .next (offer p (requestBody (.querySpace p tag sp)) (takeQuerySpace p tag sp) s)

end Sys2Proof.Machine
end

