-- ==== Sys2Proof/Machine/Keys.lean ====
section
/-! DEFINITION. KEY_CLAIM, RELEASE_HOOK, SUBSTITUTE, RETIRE, RESTORE and CABINET_DIAG (section 4.7 and chapter 5). -/

namespace Sys2Proof.Machine

/-! ## KEY_CLAIM -/

/-- A hook whose key has no owner on record: UNVERIFIED or STRAY. -/
def Occupancy.unowned : Occupancy → Bool
  | .unverified | .stray => true
  | _ => false

/-- A claimed hook: HOLDING with the ticket, any removal abandoned, and the slot commanded (R78). -/
def Work.claimHook (h : HookNo) (n : TicketNo) (w : Work) : Work :=
  (((w.updHook h fun k => { k with occ := .holding n, openForRemoval := false, windowLeft := 0 }).syncHook h).setKey n
    (.onHook h)).trigger

/-- KEY_CLAIM as its owner takes it (R78). -/
def ownKeyClaim (h : HookNo) (n : TicketNo) (w : Work) : Answer :=
  match w.ticket? n with
  | none => refuse .noTicket w
  | some t =>
    if !(w.hook h).occ.unowned then refuse .badState w
    else if t.key.isOnHook then refuse .badState w
    else if t.state = .outbound ∨ t.state = .staged then refuse .badState w
    else accept .ok (.keyClaim h n) (w.claimHook h n)

/-- KEY_CLAIM taken on a port (R78). -/
def takeKeyClaim (p : Port) (tag : Byte) (hook : BitVec 16) (n : TicketNo) : State → State :=
  serve p tag .keyClaim do
    let h ← hook? hook
    let n ← present? n
    some (ownKeyClaim h n)

/-- KEY_CLAIM (R78). -/
def execKeyClaim (p : Port) (tag : Byte) (hook : BitVec 16) (n : TicketNo) (s : State) :
    Host.Outcome State Fault Refusal :=
  .next (offer p (requestBody (.keyClaim p tag hook n)) (takeKeyClaim p tag hook n) s)

/-! ## RELEASE_HOOK -/

/-- A removal window opened or started afresh (R79). -/
def Work.openRemoval (h : HookNo) (w : Work) : Work :=
  (w.updHook h fun k => { k with openForRemoval := true, windowLeft := w.mc.params.window }).syncHook h

/-- A carry abandoned by RELEASE_HOOK (the last paragraph of R79). -/
def Work.abandonCarry (h : HookNo) (n : TicketNo) (carry : Fin 34) (w : Work) : Work :=
  (((w.updHook h fun k => { k with occ := .empty }).syncSlot ⟨hookBank h, carry⟩).syncHook h).setKey n .missing

/-- RELEASE_HOOK as its owner takes it (R79). -/
def ownReleaseHook (h : HookNo) (w : Work) : Answer :=
  match (w.hook h).occ with
  | .awaitRehang n c => accept .ok (.releaseHook h 0) (w.abandonCarry h n c)
  | .unverified | .stray => accept .ok (.releaseHook h w.mc.params.window) (w.openRemoval h)
  | _ => refuse .badState w

/-- RELEASE_HOOK taken on a port (R79). -/
def takeReleaseHook (p : Port) (tag : Byte) (hook : BitVec 16) : State → State :=
  serve p tag .releaseHook ((hook? hook).map ownReleaseHook)

/-- RELEASE_HOOK (R79). -/
def execReleaseHook (p : Port) (tag : Byte) (hook : BitVec 16) (s : State) : Host.Outcome State Fault Refusal :=
  .next (offer p (requestBody (.releaseHook p tag hook)) (takeReleaseHook p tag hook) s)

/-! ## SUBSTITUTE -/

/-- A substitution entry changed. -/
def Work.updEntry (b : BankNo) (i : Fin 2) (f : SubstEntry → SubstEntry) (w : Work) : Work :=
  { w with kci := { w.kci with subst := w.kci.subst.set (entryIdx b i) (f (w.kci.subst.get (entryIdx b i))) } }

/-- The inactive entry of a bank with the lower Index (R87). -/
def State.freeEntry? (s : State) (b : BankNo) : Option (Fin 2) :=
  (List.finRange 2).find? fun i => !(s.entry b i).active

/-- A hook mapped onto a spare, its Faulty cleared (R88, R89 step 1). -/
def Work.mapToSpare (h : HookNo) (i : Fin 2) (w : Work) : Work :=
  (w.updEntry (hookBank h) i fun _ => ⟨true, hookPos h⟩).updHook h fun k => { k with faulty := false }

/-- A carry opened: AWAIT_REHANG, and UNLATCH for the CarrySlot and then for the SpareSlot (R89). -/
def Work.openCarry (h : HookNo) (n : TicketNo) (i : Fin 2) (w : Work) : Work :=
  (((w.mapToSpare h i).updHook h fun k => { k with occ := .awaitRehang n (primarySlot h).num }).syncSlot
    (primarySlot h)).syncSlot (spareSlot (hookBank h) i)

/-- SUBSTITUTE of a hook by its Occupancy, with the entry chosen (R87 check 4, R88, R89). -/
def substituteWith (h : HookNo) (i : Fin 2) (w : Work) : Answer :=
  match (w.hook h).occ with
  | .empty =>
    accept .ok (.substitute h (hookBank h) i (spareSlot (hookBank h) i) none) (w.mapToSpare h i)
  | .holding n =>
    accept .ok (.substitute h (hookBank h) i (spareSlot (hookBank h) i) (some (primarySlot h))) (w.openCarry h n i)
  | _ => refuse .badState w

/-- SUBSTITUTE as its owner takes it (R87): a bank without a spare raises NO_SPARE. -/
def ownSubstitute (h : HookNo) (w : Work) : Answer :=
  if (w.hook h).retired || (w.activeEntry? h).isSome then refuse .badState w
  else
    match w.freeEntry? (hookBank h) with
    | none => refuse .noSpare (w.raise .noSpare (.bank (hookBank h)))
    | some i => substituteWith h i w

/-- SUBSTITUTE taken on a port (R87). -/
def takeSubstitute (p : Port) (tag : Byte) (hook : BitVec 16) : State → State :=
  serve p tag .substitute ((hook? hook).map ownSubstitute)

/-- SUBSTITUTE (R87). -/
def execSubstitute (p : Port) (tag : Byte) (hook : BitVec 16) (s : State) : Host.Outcome State Fault Refusal :=
  .next (offer p (requestBody (.substitute p tag hook)) (takeSubstitute p tag hook) s)

/-! ## RETIRE and RESTORE -/

/-- The Active entry of a hook made inactive, its Position left as written (R83, R93, R94). -/
def Work.unmapSpare (h : HookNo) (i : Option (Fin 2)) (w : Work) : Work :=
  match i with
  | some i => w.updEntry (hookBank h) i fun e => { e with active := false }
  | none => w

/-- RETIRE as its owner takes it (R93). -/
def ownRetire (h : HookNo) (w : Work) : Answer :=
  if (w.hook h).occ ≠ .empty then refuse .badState w
  else
    accept .ok (.retire h (w.activeEntry? h))
      ((w.updHook h fun k => { k with retired := true }).unmapSpare h (w.activeEntry? h))

/-- RETIRE taken on a port (R93). -/
def takeRetire (p : Port) (tag : Byte) (hook : BitVec 16) : State → State :=
  serve p tag .retire ((hook? hook).map ownRetire)

/-- RETIRE (R93). -/
def execRetire (p : Port) (tag : Byte) (hook : BitVec 16) (s : State) : Host.Outcome State Fault Refusal :=
  .next (offer p (requestBody (.retire p tag hook)) (takeRetire p tag hook) s)

/-- RESTORE as its owner takes it (R94). -/
def ownRestore (h : HookNo) (w : Work) : Answer :=
  if (w.hook h).occ ≠ .empty then refuse .badState w
  else
    accept .ok (.restore h (w.hook h).retired (w.activeEntry? h))
      ((w.updHook h fun k => { k with retired := false, faulty := false }).unmapSpare h (w.activeEntry? h))

/-- RESTORE taken on a port (R94). -/
def takeRestore (p : Port) (tag : Byte) (hook : BitVec 16) : State → State :=
  serve p tag .restore ((hook? hook).map ownRestore)

/-- RESTORE (R94). -/
def execRestore (p : Port) (tag : Byte) (hook : BitVec 16) (s : State) : Host.Outcome State Fault Refusal :=
  .next (offer p (requestBody (.restore p tag hook)) (takeRestore p tag hook) s)

/-! ## CABINET_DIAG -/

/-- CABINET_DIAG as its owner takes it (R95). -/
def ownCabinetDiag (b : BankNo) (w : Work) : Answer :=
  accept .ok
    (.diag b w.kci.latch ((List.finRange 2).map (w.entry b)) ((List.finRange 32).map fun q => w.hook (hookAt b q))) w

/-- CABINET_DIAG taken on a port (R95). -/
def takeCabinetDiag (p : Port) (tag bank : Byte) : State → State :=
  serve p tag .cabinetDiag ((bank? bank).map ownCabinetDiag)

/-- CABINET_DIAG (R95). -/
def execCabinetDiag (p : Port) (tag bank : Byte) (s : State) : Host.Outcome State Fault Refusal :=
  .next (offer p (requestBody (.cabinetDiag p tag bank)) (takeCabinetDiag p tag bank) s)

end Sys2Proof.Machine
end

