-- ==== Sys2Proof/Machine/Parking.lean ====
section
/-! DEFINITION. PARKED and the displacement of holds (section 3.4). -/

namespace Sys2Proof.Machine

/-! ## Checks -/

/-- The States a PARKED report may name (R51). -/
def TicketState.onTheMove : TicketState → Bool
  | .awaitingSpace | .inbound | .returning | .relocating | .unconfirmed => true
  | _ => false

/-- A ticket names a space in its Space or NextSpace. -/
def Ticket.claims (t : Ticket) (sp : SpaceNo) : Bool := t.space == some sp || t.nextSpace == some sp

/-- The zone of a space is admissible for a ticket (R6). -/
def State.admits (s : State) (t : Ticket) (sp : SpaceNo) : Bool :=
  (s.zoneOf? sp).any fun z => admissible z.2.cls t.carClass t.priority

/-- A space in front makes a space unreachable (R9). -/
def SpaceRec.obstructs : SpaceRec → Bool
  | .occupied _ | .outOfService => true
  | _ => false

/-- The lane of a space is shuffled (R10). -/
def State.laneShuffled (s : State) (sp : SpaceNo) : Bool := ((s.laneOf? sp).bind Lane.shuffle).isSome

/-- The checks of the named space, in order (R52). -/
def State.parkedRefusal (s : State) (t : Ticket) (sp : SpaceNo) : Option ResultCode :=
  if s.spaceRec sp = .unmapped then some .badField
  else if s.spaceRec sp = .outOfService then some .badSpace
  else if !t.claims sp && !s.admits t sp then some .badSpace
  else if s.laneShuffled sp then some .laneBusy
  else if (s.inFront sp).any fun x => !t.claims x && (s.spaceRec x).obstructs then some .badSpace
  else if (s.spaceRec sp).occupant?.any fun u => u != t.number then some .spaceTaken
  else none

/-! ## Displacement -/

/-- The STEP notice of a blocker whose NextSpace is dropped (R56, R129). -/
def Work.emitDropped (u : TicketNo) (w : Work) : Work :=
  match w.runOf? u with
  | some (r, run) => w.emitStep r run (run.steps.findIdx fun st => st.ticket == u) .dropped false
  | none => w

/-- A claim for which no other space is found (the right column of R56). -/
def Work.claimDropped (u : TicketNo) (f : ClaimField) (w : Work) : Work :=
  match (w.ticket? u).map Ticket.state with
  | some .inbound | some .returning => (w.joinQueue u).emitSpace u .dropped f none
  | some .unconfirmed => w.emitSpace u .dropped f none
  | _ => w.emitDropped u

/-- The lane excluded when a displaced claim is placed again (R55). -/
def State.displacedExclusion (s : State) (t : Ticket) (f : ClaimField) : Option SpaceNo :=
  match f with
  | .space => none
  | .nextSpace => t.space.bind s.laneFront?

/-- The displacement of a ticket's claim (R55, R56). -/
def Work.displace (u : TicketNo) (f : ClaimField) (w : Work) : Work :=
  match w.ticket? u with
  | none => w
  | some t =>
    match w.allocate t (w.displacedExclusion t f) with
    | some y => w.claimMoves u f y
    | none => w.claimDropped u f

/-! ## Acceptance -/

/-- The ticket whose hold a report takes, with the field that named the space (R53 step 1). -/
def State.holdTaken (s : State) (n : TicketNo) (sp : SpaceNo) : Option (TicketNo × ClaimField) :=
  match (s.spaceRec sp).holder? with
  | some u => if u = n then none else ((s.ticket? u).bind fun t => t.claimOf? sp).map fun f => (u, f)
  | none => none

/-- A claim taken from its holder (R53 step 1). -/
def Work.takeHold (u : Option (TicketNo × ClaimField)) (w : Work) : Work :=
  match u with
  | some (u, f) => w.updTicket u (f.write none)
  | none => w

/-- A space released when it is not the one parked in (R53 step 3). -/
def Work.freeUnless (sp : SpaceNo) (old : Option SpaceNo) (w : Work) : Work :=
  match old with
  | some x => if x = sp then w else ((w.setSpace x .free).needPass).trigger
  | none => w

/-- The car of a ticket stands in a space: steps 2 to 4 of R53. -/
def Work.parkCar (t : Ticket) (sp : SpaceNo) (w : Work) : Work :=
  ((((w.setSpace sp (.occupied t.number)).freeUnless sp t.space).freeUnless sp t.nextSpace).updTicket t.number fun x =>
      { x with space := some sp, nextSpace := none, state := .parked, formerState := none }).leaveQueue t.number

/-- The bay of a car just parked (R54, R148). -/
def Work.settleParkedBay (t : Ticket) (w : Work) : Work :=
  match t.bay with
  | some b => (w.updTicket t.number fun x => { x with bay := none }).parkedBay b t.number
  | none => w

/-- The next step of a run becomes current after a blocker step is DONE (R129, R127). -/
def Work.nextStep (r : RunnerNo) (w : Work) : Work :=
  ((w.updRun r fun q => { q with currentStep := q.currentStep + 1 }).makeCurrent r).emitCurrent r .next

/-- A blocker step DONE by its report (R129). -/
def Work.blockerDone (r : RunnerNo) (w : Work) : Work :=
  ((w.updRun r (Run.updCurrent fun st => { st with state := .done })).emitCurrent r .parked).nextStep r

/-- The Dispatch Arbiter is told that the car of a ticket has parked (R54, R129, R130). -/
def Work.stepParked (n : TicketNo) (w : Work) : Work :=
  match w.runOf? n with
  | none => w
  | some (r, run) =>
    match run.current? with
    | none => w
    | some st =>
      if st.ticket ≠ n ∨ st.state ≠ .carried then w
      else
        match st.role, run.kind with
        | .blocker, _ => w.blockerDone r
        | .target, .return_ => w.completeRun r .parked
        | .target, _ => w

/-- A change whose notices are to stand after those of the pass (R54, R150): the pass is run between. -/
def Work.passBeforeNotices (f : Work → Work) (w : Work) : Work :=
  let w1 := f { w with out := [] }
  let w2 := Work.passIfDue { w1 with out := w.out }
  { w2 with out := w2.out ++ w1.out }

/-- PARKED as its owner takes it (R51 to R56). -/
def ownParked (n : TicketNo) (sp : SpaceNo) (w : Work) : Answer :=
  match w.ticket? n with
  | none => refuse .noTicket w
  | some t =>
    if !t.state.onTheMove then refuse .badState w
    else
      match w.parkedRefusal t sp with
      | some r => refuse r w
      | none =>
        let u := w.holdTaken n sp
        let w1 := (w.takeHold u).parkCar t sp
        let w2 := match u with
          | some (u, f) => w1.displace u f
          | none => w1
        accept .ok (.parked n sp (w.zoneNo? sp) (u.map Prod.fst))
          ((w2.settleParkedBay t).passBeforeNotices (Work.stepParked n)).trigger

/-- PARKED taken on a port (R51). -/
def takeParked (p : Port) (tag : Byte) (n : TicketNo) (sp : BitVec 16) : State → State :=
  serve p tag .parked do
    let n ← present? n
    let sp ← space? sp
    some (ownParked n sp)

/-- PARKED (R51). -/
def execParked (p : Port) (tag : Byte) (n : TicketNo) (sp : BitVec 16) (s : State) : Host.Outcome State Fault Refusal :=
  .next (offer p (requestBody (.parked p tag n sp)) (takeParked p tag n sp) s)

end Sys2Proof.Machine
end

