-- ==== Sys2Proof/Machine/Ticks.lean ====
section
/-! DEFINITION. The time-driven events and the recovery bank scan (chapter 9 and section 10.5). -/

namespace Sys2Proof.Machine

/-! ## The bank scan -/

/-- The scan moves on to the next bank, or ends and the part enters SERVICE (R177). -/
def Work.scanMovesOn (b : BankNo) (w : Work) : Work :=
  if hb : b.val < 15 then
    (w.updMc fun mc => { mc with scanBank := some ⟨b.val + 1, by omega⟩, scanWaited := 0 }).queueScan
      ⟨b.val + 1, by omega⟩
  else
    ((w.updMc fun mc => { mc with scanBank := none, scanWaited := 0, mode := .service }).emitMode).needPass

/-- The awaited bank times out (R177). -/
def Work.bankTimesOut (b : BankNo) (w : Work) : Work :=
  ((w.raise .hookFault (.bank b)).updMc fun mc => { mc with silentBanks := mc.silentBanks + 1 }).scanMovesOn b

/-- A service tick counted by the bank scan (R177). -/
def Work.tickScan (w : Work) : Work :=
  match w.mc.mode, w.mc.scanBank with
  | .recovery, some b =>
    if Config.scanTicks ≤ w.mc.scanWaited + 1 then w.bankTimesOut b
    else w.updMc fun mc => { mc with scanWaited := mc.scanWaited + 1 }
  | _, _ => w

/-! ## Runs -/

/-- A run made Overdue (R137). -/
def Work.runOverdue (r : RunnerNo) (w : Work) : Work :=
  (w.updRun r fun q => { q with overdue := true }).raise .runOverdue (.runner r)

/-- A run made Lost (R137). -/
def Work.runLost (r : RunnerNo) (w : Work) : Work :=
  (w.updRun r fun q => { q with lost := true }).raise .runLost (.runner r)

/-- The count of a service tick on one run (R137). -/
def Work.tickRun (w : Work) (r : RunnerNo) : Work :=
  match w.run? r with
  | none => w
  | some run =>
    if 255 ≤ run.elapsed then w
    else
      let w1 := w.updRun r fun q => { q with elapsed := q.elapsed + 1 }
      let w2 := if run.elapsed + 1 = run.threshold then w1.runOverdue r else w1
      if run.elapsed + 1 = 255 then w2.runLost r else w2

/-! ## The minute event -/

/-- A ticket is given a PRESTAGE entry by the scan (R156). -/
def State.prestageDue (s : State) (t : Ticket) : Bool :=
  t.state == .parked && t.run.isNone && t.key.isOnHook && (s.recall? t.number).isNone && !t.prestageDone &&
    t.departure.any fun d => d ≤ s.tb.minute + s.mc.params.l

/-- One ticket considered by the pre-stage scan (R156). -/
def Work.prestageOne (w : Work) (t : Ticket) : Work :=
  if w.prestageDue t then
    (w.createEntry t.number .prestage 7 t.curbSection 0).updTicket t.number fun t => { t with prestageDone := true }
  else w

/-- The pre-stage scan: only in SERVICE with L above 0 (R156). -/
def Work.prestageScan (w : Work) : Work :=
  if w.mc.mode = .service ∧ 0 < w.mc.params.l then w.ct.tickets.foldl Work.prestageOne w else w

/-- A minute event: the counter advances, saturating, and the Forecourt Controller scans (R159). -/
def Work.minute (w : Work) : Work :=
  Work.prestageScan { w with tb := { w.tb with minute := min (w.tb.minute + 1) Config.maxMinute } }

/-! ## The tick -/

/-- The tick phase advances; the tick that would bring it to 4 is a minute event (R158). -/
def Work.tickPhase (w : Work) : Work :=
  if w.tb.phase = 3 then Work.minute { w with tb := { w.tb with phase := 0 } }
  else { w with tb := { w.tb with phase := w.tb.phase + 1 } }

/-- A service tick, taken by each block that counts by it in the order of R158's table, and then by the minute event
when it is one (R158; assumption 2). -/
def Work.tick (w : Work) : Work :=
  let w1 := (List.finRange 32).foldl Work.tickRun w
  let w2 := (List.finRange 512).foldl Work.tickHook w1
  w2.tickScan.tickPhase

/-! ## The commands -/

/-- SERVICE_TICK (R158). -/
def execServiceTick (s : State) : Host.Outcome State Fault Refusal := .next (takeEvent Work.tick s)

/-- MINUTE_EVENT (R159): a minute event by itself (assumption 2). -/
def execMinuteEvent (s : State) : Host.Outcome State Fault Refusal := .next (takeEvent Work.minute s)

/-- RELEASE_LAPSE (R74): the count that brings the WindowLeft of a RELEASED hook to 0 (assumption 2). -/
def execReleaseLapse (h : HookNo) (s : State) : Host.Outcome State Fault Refusal :=
  .next (takeEvent (fun w =>
    match (w.hook h).occ with
    | .released n => if (w.hook h).windowLeft ≤ 1 then w.lapse h n else w
    | _ => w) s)

/-- REMOVAL_WINDOW_EXPIRY (R80): the count that brings the WindowLeft of a hook with OpenForRemoval to 0
(assumption 2). -/
def execRemovalWindowExpiry (h : HookNo) (s : State) : Host.Outcome State Fault Refusal :=
  .next (takeEvent (fun w =>
    if (w.hook h).openForRemoval ∧ (w.hook h).windowLeft ≤ 1 then w.closeRemoval h else w) s)

/-- RUN_OVERDUE (R137): the count that brings a run's Elapsed to its Threshold (assumption 2). -/
def execRunOverdue (r : RunnerNo) (s : State) : Host.Outcome State Fault Refusal :=
  .next (takeEvent (fun w =>
    match w.run? r with
    | some run =>
      if ¬run.overdue ∧ run.threshold ≤ run.elapsed + 1 then
        (w.updRun r fun q => { q with elapsed := max q.elapsed q.threshold }).runOverdue r
      else w
    | none => w) s)

/-- RUN_LOST (R137): the count that brings a run's Elapsed to 255 (assumption 2). -/
def execRunLost (r : RunnerNo) (s : State) : Host.Outcome State Fault Refusal :=
  .next (takeEvent (fun w =>
    match w.run? r with
    | some run =>
      if ¬run.lost ∧ 255 ≤ run.elapsed + 1 then (w.updRun r fun q => { q with elapsed := 255 }).runLost r else w
    | none => w) s)

/-- BANK_SCAN_TIMEOUT (R177): the count that brings ScanWaited to 4 (assumption 2). -/
def execBankScanTimeout (s : State) : Host.Outcome State Fault Refusal :=
  .next (takeEvent (fun w =>
    match w.mc.mode, w.mc.scanBank with
    | .recovery, some b => if Config.scanTicks ≤ w.mc.scanWaited + 1 then w.bankTimesOut b else w
    | _, _ => w) s)

end Sys2Proof.Machine
end

