-- ==== Sys2Proof/Machine/Recovery.lean ====
section
/-! DEFINITION. A BANK_STATE reply reconciled with the hook map (R177, R178). -/

namespace Sys2Proof.Machine

/-- The numbers of the slots a presence field marks present, in slot order. -/
def presentSlots (presence : BitVec 40) : List (Fin 34) := (List.finRange 34).filter fun i => presence.getLsbD i.val

/-- A HOLDING hook that the scan contradicts: its new Occupancy, the ticket's KeyPlace MISSING, and
RECOVERY_MISMATCH with the hook (R178). -/
def Work.mismatch (h : HookNo) (n : TicketNo) (o : Occupancy) (w : Work) : Work :=
  (((w.updHook h fun k => { k with occ := o }).syncHook h).setKey n .missing).raise .recoveryMismatch (.hook h)

/-- A present slot of a HOLDING hook compared with its ticket (R178). -/
def Work.agreeHolding (h : HookNo) (n : TicketNo) (sl : Slot) (field : BitVec 24) (w : Work) : Work :=
  let w1 := w.noteDecode sl field
  match decodeTag (readWord field) with
  | none => w1.mismatch h n .unverified
  | some m => if m = n then w1 else w1.mismatch h n .stray

/-- One slot of the reply compared with the record of the hook it belongs to; `word` is absent when the slot is
(R178). -/
def Work.reconcileHook (h : HookNo) (sl : Slot) (word : Option (BitVec 24)) (w : Work) : Work :=
  match (w.hook h).occ, word with
  | .empty, none => w
  | .empty, some f => w.hungOnEmpty h sl f
  | .holding n, none => w.mismatch h n .empty
  | .holding n, some f => w.agreeHolding h n sl f
  | .unverified, none => w.emptyHook h
  | .stray, none => w.emptyHook h
  | .awaitRehang _ _, some f => w.hungOnSpare h sl f
  | _, _ => w

/-- One slot of the reply, by what it belongs to (R84, R178). -/
def Work.reconcileSlot (sl : Slot) (word : Option (BitVec 24)) (w : Work) : Work :=
  match w.slotOwner sl with
  | .unmapped => w
  | .carrySlot _ => w
  | .carrySpare h => w.reconcileHook h sl word
  | .hook h => if (w.hook h).retired then w else w.reconcileHook h sl word

/-- The slots of the reply taken in order, each present one with the next tag word (R178). -/
def Work.reconcile (b : BankNo) (presence : BitVec 40) : List (Fin 34) → List (BitVec 24) → Work → Work
  | [], _, w => w
  | i :: is, words, w =>
    match presence.getLsbD i.val, words with
    | true, f :: fs => Work.reconcile b presence is fs (w.reconcileSlot ⟨b, i⟩ (some f))
    | true, [] => Work.reconcile b presence is [] w
    | false, fs => Work.reconcile b presence is fs (w.reconcileSlot ⟨b, i⟩ none)

/-- A BANK_STATE reply taken: reconciled when it names ScanBank in RECOVERY and has a word for each slot present,
discarded otherwise (R177). -/
def Work.takeBankState (bank : Byte) (presence : BitVec 40) (words : List (BitVec 24)) (w : Work) : Work :=
  match w.mc.mode, w.mc.scanBank with
  | .recovery, some b =>
    if bank.toNat = b.val ∧ words.length = (presentSlots presence).length then
      (w.reconcile b presence (List.finRange 34) words).scanMovesOn b
    else w
  | _, _ => w

end Sys2Proof.Machine
end

