-- ==== Sys2Proof/Machine/Parse.lean ====
section
/-! DEFINITION. The bodies of received frames read back into commands (sections 11.6.2 and 11.6.4). -/

namespace Sys2Proof.Machine

/-! ## Requests -/

/-- The fields after the tag of a request, at their places; `none` when the length is not the kind's, or an item,
selector or action is none of those named (R184 check 4). -/
def parseFields (p : Port) (tag : Byte) (k : ReqKind) (fields : List Byte) : Option Instr :=
  match k, fields with
  | .issue, [cc, pr, g1, g0, dg, o1, o0, c] => some (.issue p tag cc pr (word16 g1 g0) dg (word16 o1 o0) c)
  | .parked, [n1, n0, s1, s0] => some (.parked p tag (word16 n1 n0) (word16 s1 s0))
  | .amend, [n1, n0, a, o1, o0, gg, g1, g0, pr] =>
    some (.amend p tag (word16 n1 n0) a (word16 o1 o0) gg (word16 g1 g0) pr)
  | .queryTicket, [0, v1, v0, s1, s0] => some (.queryTicketByNumber p tag (word16 v1 v0) (word16 s1 s0))
  | .queryTicket, [1, v1, v0, s1, s0] => some (.queryTicketByGuest p tag (word16 v1 v0) (word16 s1 s0))
  | .recall, [0, v1, v0, c] => some (.recallByNumber p tag (word16 v1 v0) c)
  | .recall, [1, v1, v0, c] => some (.recallByGuest p tag (word16 v1 v0) c)
  | .cancel, [n1, n0] => some (.cancel p tag (word16 n1 n0))
  | .staged, [n1, n0, b] => some (.staged p tag (word16 n1 n0) b)
  | .handover, [n1, n0] => some (.handover p tag (word16 n1 n0))
  | .returnCar, [n1, n0] => some (.returnCar p tag (word16 n1 n0))
  | .bayHold, [b, 0] => some (.bayHoldSet p tag b)
  | .bayHold, [b, 1] => some (.bayHoldClear p tag b)
  | .runnerDuty, [r, 0, tm] => some (.runnerDutyOn p tag r tm)
  | .runnerDuty, [r, 1, tm] => some (.runnerDutyOff p tag r tm)
  | .reopen, [r] => some (.reopen p tag r)
  | .dispatchMask, [m] => some (.dispatchMask p tag m)
  | .queryRunner, [r] => some (.queryRunner p tag r)
  | .keyClaim, [h1, h0, n1, n0] => some (.keyClaim p tag (word16 h1 h0) (word16 n1 n0))
  | .releaseHook, [h1, h0] => some (.releaseHook p tag (word16 h1 h0))
  | .substitute, [h1, h0] => some (.substitute p tag (word16 h1 h0))
  | .retire, [h1, h0] => some (.retire p tag (word16 h1 h0))
  | .restore, [h1, h0] => some (.restore p tag (word16 h1 h0))
  | .cabinetDiag, [b] => some (.cabinetDiag p tag b)
  | .zoneState, [z, 0] => some (.zoneStateOpen p tag z)
  | .zoneState, [z, 1] => some (.zoneStateClose p tag z)
  | .spaceService, [s1, s0, 0] => some (.spaceServiceOut p tag (word16 s1 s0))
  | .spaceService, [s1, s0, 1] => some (.spaceServiceReturn p tag (word16 s1 s0))
  | .querySpace, [s1, s0] => some (.querySpace p tag (word16 s1 s0))
  | .configure, [0, z, b1, b0, n1, n0, d, wk, c, t0, t1, t2, t3] =>
    some (.configureZone p tag z (word16 b1 b0) (word16 n1 n0) d wk c t0 t1 t2 t3)
  | .configure, [1, z] => some (.configureZoneRemove p tag z)
  | .configure, [2, q, rs, bl, ds, a1, a0] => some (.configurePort p tag q rs bl ds (word16 a1 a0))
  | .configure, [3, x, sl, w, l] => some (.configureParams p tag x sl w l)
  | .tune, [x, sl, w, l] => some (.tune p tag x sl w l)
  | .commitSetup, [] => some (.commitSetup p tag)
  | .coldStart, [] => some (.coldStart p tag)
  | .clearAlert, [f1, f0] => some (.clearAlert p tag (word16 f1 f0))
  | .status, [] => some (.status p tag)
  | _, _ => none

/-- What a request frame says, before any check that reads the state. -/
inductive Parsed where
  | command (i : Instr)
  | badKind (kind tag : Byte)
  | badFields (k : ReqKind) (tag : Byte)
deriving DecidableEq, Repr

/-- A request body read (R184 checks 1 and 4). A body has at least its kind and its tag. -/
def parseRequest (p : Port) (body : List Byte) : Option Parsed :=
  match body with
  | kind :: tag :: fields =>
    match reqKind? kind with
    | none => some (.badKind kind tag)
    | some k =>
      match parseFields p tag k fields with
      | some i => some (.command i)
      | none => some (.badFields k tag)
  | _ => none

/-! ## Cabinet messages -/

/-- A slot field. -/
def slot? (bank num : Byte) : Option Slot := do
  let b ← fin? 16 bank.toNat
  let n ← fin? 34 num.toNat
  some ⟨b, n⟩

/-- The presence field of five bytes. -/
def word40 (a b c d e : Byte) : BitVec 40 := (((a ++ b) ++ c) ++ d) ++ e

/-- Tag words, three bytes each. -/
def words24 : List Byte → List (BitVec 24)
  | a :: b :: c :: rest => word24 a b c :: words24 rest
  | _ => []

/-- The kind of a cabinet body is one the cabinet sends, and its length is the one that kind requires (R188). -/
def cabinetWellSized (body : List Byte) : Bool :=
  match body with
  | 0x81 :: rest => rest.length == 5
  | 0x82 :: rest => rest.length == 2
  | 0x83 :: rest => rest.length == 2
  | 0x84 :: _ :: a :: b :: c :: d :: e :: rest => rest.length == 3 * (presentSlots (word40 a b c d e)).length
  | _ => false

/-- A cabinet body read; `none` for a slot that does not exist, which is discarded (assumption 12). -/
def parseCabinet (body : List Byte) : Option Instr :=
  match body with
  | [0x81, b, n, w2, w1, w0] => (slot? b n).map fun sl => .hung sl (word24 w2 w1 w0)
  | [0x82, b, n] => (slot? b n).map .lifted
  | [0x83, b, n] => (slot? b n).map .sensorFault
  | 0x84 :: bank :: a :: b :: c :: d :: e :: rest => some (.bankState bank (word40 a b c d e) (words24 rest))
  | _ => none

end Sys2Proof.Machine
end

