-- ==== Sys2Proof/Machine/Recalls.lean ====
section
/-! DEFINITION. RECALL, CANCEL, DISPATCH_MASK, RUNNER_DUTY, QUERY_RUNNER and REOPEN (chapters 6 and 7). -/

namespace Sys2Proof.Machine

/-! ## RECALL -/

/-- The recall level of a ticket from a port (R102). -/
def State.recallLevel (s : State) (p : Port) (t : Ticket) : Level :=
  minLevel (s.mc.ports.get p).baseLevel t.priority

/-- A run of Kind RETRIEVE or PRESTAGE. -/
def EntryKind.fetches : EntryKind → Bool
  | .return_ => false
  | _ => true

/-- RECALL of a STAGED ticket (case 1 of R103, R152). -/
def Work.recallStaged (p : Port) (t : Ticket) (w : Work) : Work :=
  match t.bay with
  | none => w
  | some b =>
    let notify := (((w.recall? t.number).filter fun e => e.kind == .return_).map Entry.notify).getD 0
    let w1 := if w.returnPending t.number then w.dropEntry t.number else w
    (w1.markCalled b).emitReady (w.portsWith .podium ||| onePort p ||| notify) t.number b .recalled

/-- An entry that a RECALL merges into (case 2 of R103). -/
def Entry.merge (e : Entry) (p : Port) (lv : Level) (c : Section4) (named : Bool) : Entry :=
  { e with level := minLevel e.level lv, notify := e.notify ||| onePort p, kind := .retrieve,
           curbSection := if named then c else e.curbSection }

/-- RECALL of a ticket with an entry (case 2 of R103); a lower Level, another Kind or another CurbSection is a
trigger. -/
def Work.recallEntry (p : Port) (e : Entry) (lv : Level) (c : Section4) (named : Bool) (w : Work) : Work :=
  let e' := e.merge p lv c named
  (w.replaceEntry e').triggerIf (e'.level.val < e.level.val || e'.kind != e.kind || e'.curbSection != e.curbSection)

/-- RECALL of the target of a RETRIEVE or PRESTAGE run (cases 3 and 4 of R103). -/
def Run.merge (p : Port) (lv : Level) (q : Run) : Run :=
  { q with kind := .retrieve, level := minLevel q.level lv, notify := q.notify ||| onePort p }

/-- RECALL applied to one ticket: the first case of R103 that fits, with the per-ticket result. -/
def Work.recallOne (p : Port) (c : Section4) (named : Bool) (t : Ticket) (w : Work) : Work × ResultCode :=
  let lv := w.recallLevel p t
  if t.state = .staged then (w.recallStaged p t, .ready)
  else
    match (w.recall? t.number).filter fun e => e.kind.fetches with
    | some e => (w.recallEntry p e lv c named, .merged)
    | none =>
      match (w.targetRun? t.number).filter fun x => x.2.kind.fetches with
      | some (r, _) => (w.updRun r (Run.merge p lv), .merged)
      | none => (w.createEntry t.number .retrieve lv c (onePort p), .ok)

/-- The response to a RECALL by number, read after the arbitration (R104). -/
def recallAnswer (n : TicketNo) (r : ResultCode) (w : Work) : Answer :=
  let w1 := w.finish
  let run := w1.targetRun? n
  let e := w1.recall? n
  ⟨w1, r, .recall n ((e.map Entry.level).orElse fun _ => run.map fun x => x.2.level)
    ((e.map Entry.kind).orElse fun _ => run.map fun x => x.2.kind) (w1.eta n)⟩

/-- The recall section: the one named, or the DefaultSection of the port (R102). -/
def State.recallSection (s : State) (p : Port) (c : Option Section4) : Section4 :=
  c.getD (s.mc.ports.get p).defaultSection

/-- RECALL by number as its owner takes it (R102 to R104). -/
def ownRecallByNumber (p : Port) (n : TicketNo) (c : Option Section4) (w : Work) : Answer :=
  match w.ticket? n with
  | none => refuse .noTicket w
  | some t =>
    let x := w.recallOne p (w.recallSection p c) c.isSome t
    recallAnswer n x.2 x.1

/-- RECALL by number taken on a port (R102). -/
def takeRecallByNumber (p : Port) (tag : Byte) (n : TicketNo) (sec : Byte) : State → State :=
  serve p tag .recall do
    let n ← present? n
    let c ← optSection? sec
    some (ownRecallByNumber p n c)

/-- RECALL by number (R102). -/
def execRecallByNumber (p : Port) (tag : Byte) (n : TicketNo) (sec : Byte) (s : State) :
    Host.Outcome State Fault Refusal :=
  .next (offer p (requestBody (.recallByNumber p tag n sec)) (takeRecallByNumber p tag n sec) s)

/-- RECALL applied to the tickets of a guest reference in turn, with the results (R105). -/
def recallEach (p : Port) (c : Section4) (named : Bool) : List TicketNo → Work → Work × List ResultCode
  | [], w => (w, [])
  | n :: ns, w =>
    match w.ticket? n with
    | none => recallEach p c named ns w
    | some t =>
      let x := w.recallOne p c named t
      let y := recallEach p c named ns x.1
      (y.1, x.2 :: y.2)

/-- The result of a RECALL by guest reference (R105). -/
def guestResult (rs : List ResultCode) : ResultCode :=
  if rs.contains .ok then .ok else if rs.contains .merged then .merged else .ready

/-- RECALL by guest reference as its owner takes it (R105). -/
def ownRecallByGuest (p : Port) (g : BitVec 16) (c : Option Section4) (w : Work) : Answer :=
  let ns := (w.guestTickets g).map Ticket.number
  if ns.isEmpty then refuse .noTicket w
  else
    let x := recallEach p (w.recallSection p c) c.isSome ns w
    let w1 := x.1.finish
    ⟨w1, guestResult x.2,
      .recallGuest ns.length (x.2.filter fun r => r == .ok).length (x.2.filter fun r => r == .ready).length
        ((ns.map w1.eta).foldl max 0)⟩

/-- RECALL by guest reference taken on a port (R102, R105). -/
def takeRecallByGuest (p : Port) (tag : Byte) (g : BitVec 16) (sec : Byte) : State → State :=
  serve p tag .recall do
    let g ← present? g
    let c ← optSection? sec
    some (ownRecallByGuest p g c)

/-- RECALL by guest reference (R105). -/
def execRecallByGuest (p : Port) (tag : Byte) (g : BitVec 16) (sec : Byte) (s : State) :
    Host.Outcome State Fault Refusal :=
  .next (offer p (requestBody (.recallByGuest p tag g sec)) (takeRecallByGuest p tag g sec) s)

/-! ## CANCEL -/

/-- The ticket's pending RETURN entry serves an eviction: its bay is CLEARING (case 1 of R106). -/
def State.evictionPending (s : State) (t : Ticket) : Bool :=
  s.returnPending t.number && t.bay.any fun b => (s.bay b).condition == .clearing

/-- CANCEL of a run, by the Duty of its runner (cases 3 to 5 of R106). -/
def cancelRun (r : RunnerNo) (run : Run) (w : Work) : Answer :=
  match (w.da.runners.get r).duty with
  | .committed => refuse .tooLate w
  | .assigned =>
    if run.kind.fetches then accept .ok .empty ((w.abortRun r .cancelled false).freeRunner r) else refuse .badState w
  | _ => refuse .badState w

/-- CANCEL as its owner takes it (R106). -/
def ownCancel (n : TicketNo) (w : Work) : Answer :=
  match w.ticket? n with
  | none => refuse .noTicket w
  | some t =>
    if w.evictionPending t then refuse .badState w
    else if (w.recall? n).isSome then accept .ok .empty (w.dropEntry n)
    else
      match w.targetRun? n with
      | some (r, run) => cancelRun r run w
      | none => refuse .badState w

/-- CANCEL taken on a port (R106). -/
def takeCancel (p : Port) (tag : Byte) (n : TicketNo) : State → State :=
  serve p tag .cancel ((present? n).map ownCancel)

/-- CANCEL (R106). -/
def execCancel (p : Port) (tag : Byte) (n : TicketNo) (s : State) : Host.Outcome State Fault Refusal :=
  .next (offer p (requestBody (.cancel p tag n)) (takeCancel p tag n) s)

/-! ## DISPATCH_MASK -/

/-- DISPATCH_MASK as its owner takes it (R107). -/
def ownDispatchMask (m : BitVec 8) (w : Work) : Answer :=
  accept .ok (.mask m) (Work.trigger { w with da := { w.da with mask := m } })

/-- DISPATCH_MASK taken on a port (R107). -/
def takeDispatchMask (p : Port) (tag levels : Byte) : State → State :=
  serve p tag .dispatchMask (some (ownDispatchMask levels))

/-- DISPATCH_MASK (R107). -/
def execDispatchMask (p : Port) (tag levels : Byte) (s : State) : Host.Outcome State Fault Refusal :=
  .next (offer p (requestBody (.dispatchMask p tag levels)) (takeDispatchMask p tag levels) s)

/-! ## RUNNER_DUTY -/

/-- The response to an accepted RUNNER_DUTY, read after the event's arbitration (R109; assumption 11). -/
def dutyAnswer (r : RunnerNo) (w : Work) : Answer :=
  let w1 := w.finish
  ⟨w1, .ok, .duty r (w1.da.runners.get r).duty (w1.da.runners.get r).team⟩

/-- RUNNER_DUTY on as its owner takes it (R109). -/
def ownDutyOn (r : RunnerNo) (tm : Team) (w : Work) : Answer :=
  let w1 := w.updRunner r fun x => { x with team := tm }
  dutyAnswer r (if (w.da.runners.get r).duty = .off then w1.freeRunner r else w1)

/-- RUNNER_DUTY on taken on a port (R109). -/
def takeDutyOn (p : Port) (tag runner team : Byte) : State → State :=
  serve p tag .runnerDuty do
    let r ← runner? runner
    let tm ← fin? 4 team.toNat
    some (ownDutyOn r tm)

/-- RUNNER_DUTY on (R109). -/
def execRunnerDutyOn (p : Port) (tag runner team : Byte) (s : State) : Host.Outcome State Fault Refusal :=
  .next (offer p (requestBody (.runnerDutyOn p tag runner team)) (takeDutyOn p tag runner team) s)

/-- The runner goes OFF, its Team kept (R109). -/
def Work.dutyOff (r : RunnerNo) (w : Work) : Work := w.updRunner r fun x => { x with duty := .off }

/-- An ASSIGNED runner put off duty: its run is aborted and its entry returns (R109, R136). -/
def Work.offDutyAbort (r : RunnerNo) (w : Work) : Work :=
  match w.run? r with
  | some run => ((w.abortRun r .offDuty true).returnEntry run).dutyOff r
  | none => w.dutyOff r

/-- RUNNER_DUTY off as its owner takes it (R109). -/
def ownDutyOff (r : RunnerNo) (w : Work) : Answer :=
  match (w.da.runners.get r).duty with
  | .off => dutyAnswer r w
  | .free => dutyAnswer r (w.dutyOff r)
  | .assigned => dutyAnswer r (w.offDutyAbort r)
  | .committed => refuse .tooLate w

/-- RUNNER_DUTY off taken on a port; its team is not read (R109). -/
def takeDutyOff (p : Port) (tag runner : Byte) : State → State :=
  serve p tag .runnerDuty ((runner? runner).map ownDutyOff)

/-- RUNNER_DUTY off (R109). -/
def execRunnerDutyOff (p : Port) (tag runner team : Byte) (s : State) : Host.Outcome State Fault Refusal :=
  .next (offer p (requestBody (.runnerDutyOff p tag runner team)) (takeDutyOff p tag runner) s)

/-! ## QUERY_RUNNER -/

/-- What QUERY_RUNNER reports of a run (R110). -/
def Run.report (q : Run) : RunReport :=
  { kind := q.kind, level := q.level, target := q.target, curbSection := q.curbSection, bay := q.bay,
    stepCount := q.steps.length, currentStep := q.currentStep, stepState := q.current?.map RunStep.state,
    committed := q.committed, d := q.d, threshold := q.threshold, elapsed := q.elapsed, overdue := q.overdue,
    lost := q.lost }

/-- QUERY_RUNNER as its owner takes it (R110). -/
def ownQueryRunner (r : RunnerNo) (w : Work) : Answer :=
  let x := w.da.runners.get r
  accept .ok (.runner x.duty x.team x.freeStamp ((w.run? r).map Run.report)) w

/-- QUERY_RUNNER taken on a port (R110). -/
def takeQueryRunner (p : Port) (tag runner : Byte) : State → State :=
  serve p tag .queryRunner ((runner? runner).map ownQueryRunner)

/-- QUERY_RUNNER (R110). -/
def execQueryRunner (p : Port) (tag runner : Byte) (s : State) : Host.Outcome State Fault Refusal :=
  .next (offer p (requestBody (.queryRunner p tag runner)) (takeQueryRunner p tag runner) s)

/-! ## REOPEN -/

/-- A REOPEN refused BAD_STATE carries the runner, CurrentStep, StepState, Hook and reason as they stand (R132, R185).
DESIGN CHOICE (assumption 24): it does so by check 2 and check 3 alike; a runner that no run names has no CurrentStep,
StepState or Hook, and where the KCI was not asked there is no reason: those fields are absent. -/
def refuseReopen (r : RunnerNo) (reason : Option Withheld) (w : Work) : Answer :=
  let run := w.run? r
  let st := run.bind Run.current?
  ⟨w, .badState, .reopenRefused r (run.map Run.currentStep) (st.map RunStep.state) (st.bind RunStep.hook) reason⟩

/-- The response of a REOPEN once the release has been asked for (R132). -/
def reopenAnswer (r : RunnerNo) (w : Work) : Answer :=
  match w.run? r with
  | none => refuseReopen r none w
  | some run =>
    match run.current? with
    | none => refuseReopen r none w
    | some st =>
      if st.state = .released then
        accept .ok (.reopen r run.currentStep st.state st.hook) (w.emitCurrent r .reopen)
      else refuseReopen r st.withheld w

/-- REOPEN as its owner takes it (R132). -/
def ownReopen (r : RunnerNo) (w : Work) : Answer :=
  match (w.run? r).bind Run.current? with
  | none => refuseReopen r none w
  | some st => if st.state = .lapsed then reopenAnswer r (w.askRelease r st.ticket) else refuseReopen r none w

/-- REOPEN taken on a port (R132). -/
def takeReopen (p : Port) (tag runner : Byte) : State → State :=
  serve p tag .reopen ((runner? runner).map ownReopen)

/-- REOPEN (R132). -/
def execReopen (p : Port) (tag runner : Byte) (s : State) : Host.Outcome State Fault Refusal :=
  .next (offer p (requestBody (.reopen p tag runner)) (takeReopen p tag runner) s)

end Sys2Proof.Machine
end

