-- ==== Sys2Proof/Machine/Links.lean ====
section
/-! DEFINITION. The station links and the cabinet link: bytes, frames, breaks, sending, and the frames that wait
(chapter 11). -/

namespace Sys2Proof.Machine

/-! ## Receiving bytes -/

/-- What a link's receiver is set for: its start byte, its greatest length, and the further check of a body (R181,
R188). -/
structure LinkKind where
  start  : Byte
  maxLen : Nat
  good   : List Byte → Bool

/-- A station link (R181). -/
def stationKind : LinkKind := ⟨0xA5, 62, fun _ => true⟩

/-- The cabinet link (R188). -/
def cabinetKind : LinkKind := ⟨0x5A, 109, cabinetWellSized⟩

/-- The body and the CRC bytes after the length byte of an assembled frame: the body, when the CRC is the one
computed (R182). -/
def checkedBody (k : LinkKind) (len : Byte) (rest : List Byte) : Option (List Byte) :=
  let body := rest.take len.toNat
  let crc := crc16 (len :: body)
  if rest.drop len.toNat = [crc.extractLsb' 8 8, crc.extractLsb' 0 8] ∧ k.good body = true then some body else none

/-- A byte taken by a receiver that is assembling, with the bytes before it (R182). -/
def assemble (k : LinkKind) (taken : List Byte) (b : Byte) : Receiver × Option (List Byte) :=
  match taken ++ [b] with
  | [] => (.hunting, none)
  | len :: rest =>
    if len.toNat < 2 ∨ k.maxLen < len.toNat then (.hunting, none)
    else if rest.length = len.toNat + 2 then (.hunting, checkedBody k len rest)
    else (.assembling (len :: rest), none)

/-- A byte taken by a receiver: its state after it, and the body of the frame it completes, if it completes a good one
(R182). -/
def receive (k : LinkKind) (r : Receiver) (b : Byte) : Receiver × Option (List Byte) :=
  match r with
  | .hunting => (if b = k.start then .assembling [] else .hunting, none)
  | .assembling taken => assemble k taken b

/-! ## Station links -/

/-- A byte on a station line (R182, R183). -/
def StationLink.byte (l : StationLink) (b : Byte) : StationLink :=
  let x := receive stationKind l.receiver b
  let l' := { l with receiver := x.1 }
  match x.2 with
  | some body => l'.store body
  | none => l'

/-- Bytes on the line into a port; none is taken while the line is low or the part is not live (R187). -/
def stationBytes (p : Port) (bs : List Byte) (s : State) : State :=
  if s.live && !(s.slu.get p).lineLow then s.updLink p fun l => bs.foldl StationLink.byte l else s

/-- STATION_FRAME_RECEIVED (R182): the bytes that complete a frame. -/
def execStationFrameReceived (p : Port) (bs : List Byte) (s : State) : Host.Outcome State Fault Refusal :=
  .next (stationBytes p bs s)

/-- STATION_START_BYTE (R182). -/
def execStationStartByte (p : Port) (b : Byte) (s : State) : Host.Outcome State Fault Refusal :=
  .next (stationBytes p [b] s)

/-- STATION_LENGTH_REJECT (R182): the length byte of a frame. -/
def execStationLengthReject (p : Port) (len : Byte) (s : State) : Host.Outcome State Fault Refusal :=
  .next (stationBytes p [len] s)

/-- STATION_FRAME_GAP (R182): a partial frame is discarded. -/
def execStationFrameGap (p : Port) (s : State) : Host.Outcome State Fault Refusal :=
  .next (if s.live then s.updLink p fun l => { l with receiver := .hunting } else s)

/-- A frame is a notice. -/
def Frame.isNotice : Frame → Bool
  | .notice _ => true
  | .response .. => false

/-- A link reset by a break (R187). -/
def StationLink.breakLink (l : StationLink) : StationLink :=
  { l with receiver := .hunting, buffer := [], tx := [], overflow := l.overflow || l.tx.any Frame.isNotice,
           lineLow := true }

/-- LINE_BREAK (R187). -/
def execLineBreak (p : Port) (s : State) : Host.Outcome State Fault Refusal :=
  .next (if s.live then s.updLink p StationLink.breakLink else s.updLink p fun l => { l with lineLow := true })

/-- LINE_RETURN_HIGH (R187): hunting begins with the byte that follows. -/
def execLineReturnHigh (p : Port) (s : State) : Host.Outcome State Fault Refusal :=
  .next (s.updLink p fun l => { l with receiver := .hunting, lineLow := false })

/-- The head of a transmit queue sent (R186). -/
def StationLink.sendHead (l : StationLink) : StationLink :=
  match l.tx with
  | [] => l
  | f :: fs => { l with tx := fs, lineOut := wireFrame 0xA5 f.body }

/-- FRAME_SENT (R186). -/
def execFrameSent (p : Port) (s : State) : Host.Outcome State Fault Refusal :=
  .next (if s.live then s.updLink p StationLink.sendHead else s)

/-! ## The cabinet link -/

/-- A complete cabinet frame joins the receive buffer, or is discarded when 8 are waiting (R188). -/
def KeyCabinet.store (body : List Byte) (k : KeyCabinet) : KeyCabinet :=
  if k.buffer.length < Config.cabinetRxCapacity then { k with buffer := k.buffer ++ [body] } else k

/-- A byte on the cabinet line (R188). -/
def KeyCabinet.byte (k : KeyCabinet) (b : Byte) : KeyCabinet :=
  let x := receive cabinetKind k.receiver b
  let k' := { k with receiver := x.1 }
  match x.2 with
  | some body => k'.store body
  | none => k'

/-- Bytes on the cabinet line. -/
def cabinetBytes (bs : List Byte) (s : State) : State :=
  if s.live then { s with kci := bs.foldl KeyCabinet.byte s.kci } else s

/-- CABINET_FRAME_RECEIVED (R188): the bytes that complete a frame. -/
def execCabinetFrameReceived (bs : List Byte) (s : State) : Host.Outcome State Fault Refusal :=
  .next (cabinetBytes bs s)

/-- CABINET_START_BYTE (R188). -/
def execCabinetStartByte (b : Byte) (s : State) : Host.Outcome State Fault Refusal := .next (cabinetBytes [b] s)

/-- CABINET_LENGTH_REJECT (R188): the length byte of a frame. -/
def execCabinetLengthReject (len : Byte) (s : State) : Host.Outcome State Fault Refusal :=
  .next (cabinetBytes [len] s)

/-- CABINET_FRAME_GAP (R188): a partial frame is discarded. -/
def execCabinetFrameGap (s : State) : Host.Outcome State Fault Refusal :=
  .next (if s.live then { s with kci := { s.kci with receiver := .hunting } } else s)

/-- The head of the command queue sent (R189). -/
def KeyCabinet.sendHead (k : KeyCabinet) : KeyCabinet :=
  match k.commands with
  | [] => k
  | c :: cs => { k with commands := cs, lineOut := wireFrame 0x5A c.body }

/-- CABINET_COMMAND_SENT (R189). -/
def execCabinetCommandSent (s : State) : Host.Outcome State Fault Refusal :=
  .next (if s.live then { s with kci := s.kci.sendHead } else s)

/-- A cabinet frame completes: it is taken at once when nothing waits before it, and otherwise joins the buffer
(R188; assumption 1). -/
def offerCabinet (body : List Byte) (taken : State → State) (s : State) : State :=
  if !s.live then s
  else
    let s1 := { s with kci := { s.kci with receiver := .hunting } }
    if s.kci.buffer.isEmpty then taken s1 else { s1 with kci := s1.kci.store body }

/-- HUNG (R67, R68). -/
def execHung (sl : Slot) (word : BitVec 24) (s : State) : Host.Outcome State Fault Refusal :=
  .next (offerCabinet (cabinetBody (.hung sl word)) (takeEvent (Work.takeHung sl word)) s)

/-- LIFTED (R69 to R71). -/
def execLifted (sl : Slot) (s : State) : Host.Outcome State Fault Refusal :=
  .next (offerCabinet (cabinetBody (.lifted sl)) (takeEvent (Work.takeLifted sl)) s)

/-- SENSOR_FAULT (R72). -/
def execSensorFault (sl : Slot) (s : State) : Host.Outcome State Fault Refusal :=
  .next (offerCabinet (cabinetBody (.sensorFault sl)) (takeEvent (Work.takeSensorFault sl)) s)

/-- The body of a BANK_STATE is of the length its presence field requires (R188). -/
def bankStateSized (presence : BitVec 40) (words : List (BitVec 24)) : Bool :=
  words.length == (presentSlots presence).length

/-- BANK_STATE (R177, R178). A frame of another length is discarded by the receiver (R188). -/
def execBankState (bank : Byte) (presence : BitVec 40) (words : List (BitVec 24)) (s : State) :
    Host.Outcome State Fault Refusal :=
  .next (if bankStateSized presence words then
      offerCabinet (cabinetBody (.bankState bank presence words)) (takeEvent (Work.takeBankState bank presence words)) s
    else if s.live then { s with kci := { s.kci with receiver := .hunting } }
    else s)

/-! ## The frames that wait -/

/-- A command read from a waiting frame, taken; the commands that no frame carries change nothing here. -/
def takeCommand (i : Instr) (s : State) : State :=
  match i with
  | .issue p tag cc pr g dg o c => takeIssue p tag cc pr g dg o c s
  | .amend p tag n a o gg g pr => takeAmend p tag n a o gg g pr s
  | .queryTicketByNumber p tag n _ => takeQueryTicketByNumber p tag n s
  | .queryTicketByGuest p tag g st => takeQueryTicketByGuest p tag g st s
  | .parked p tag n sp => takeParked p tag n sp s
  | .recallByNumber p tag n c => takeRecallByNumber p tag n c s
  | .recallByGuest p tag g c => takeRecallByGuest p tag g c s
  | .cancel p tag n => takeCancel p tag n s
  | .dispatchMask p tag m => takeDispatchMask p tag m s
  | .runnerDutyOn p tag r tm => takeDutyOn p tag r tm s
  | .runnerDutyOff p tag r _ => takeDutyOff p tag r s
  | .queryRunner p tag r => takeQueryRunner p tag r s
  | .reopen p tag r => takeReopen p tag r s
  | .staged p tag n b => takeStaged p tag n b s
  | .handover p tag n => takeHandover p tag n s
  | .returnCar p tag n => takeReturnCar p tag n s
  | .bayHoldSet p tag b => takeBayHoldSet p tag b s
  | .bayHoldClear p tag b => takeBayHoldClear p tag b s
  | .keyClaim p tag h n => takeKeyClaim p tag h n s
  | .releaseHook p tag h => takeReleaseHook p tag h s
  | .substitute p tag h => takeSubstitute p tag h s
  | .retire p tag h => takeRetire p tag h s
  | .restore p tag h => takeRestore p tag h s
  | .cabinetDiag p tag b => takeCabinetDiag p tag b s
  | .zoneStateOpen p tag z => takeZoneOpen p tag z s
  | .zoneStateClose p tag z => takeZoneClose p tag z s
  | .spaceServiceOut p tag sp => takeSpaceOut p tag sp s
  | .spaceServiceReturn p tag sp => takeSpaceReturn p tag sp s
  | .querySpace p tag sp => takeQuerySpace p tag sp s
  | .configureZone p tag z b n d wk c t0 t1 t2 t3 => takeConfigureZone p tag z b n d wk c t0 t1 t2 t3 s
  | .configureZoneRemove p tag z => takeConfigureZoneRemove p tag z s
  | .configurePort p tag q rs bl ds ae => takeConfigurePort p tag q rs bl ds ae s
  | .configureParams p tag k sl w l => takeConfigureParams p tag k sl w l s
  | .tune p tag k sl w l => takeTune p tag k sl w l s
  | .commitSetup p tag => takeCommitSetup p tag s
  | .coldStart p tag => takeColdStart p tag s
  | .clearAlert p tag f => takeClearAlert p tag f s
  | .status p tag => takeStatus p tag s
  | .hung sl w => takeEvent (Work.takeHung sl w) s
  | .lifted sl => takeEvent (Work.takeLifted sl) s
  | .sensorFault sl => takeEvent (Work.takeSensorFault sl) s
  | .bankState b pr ws => takeEvent (Work.takeBankState b pr ws) s
  | .powerOn .. | .resetLine .. | .serviceTick | .minuteEvent | .releaseLapse _ | .removalWindowExpiry _
  | .runOverdue _ | .runLost _ | .bankScanTimeout | .cabinetFrameReceived _ | .cabinetFrameGap | .cabinetCommandSent
  | .stationFrameReceived .. | .stationFrameGap _ | .lineBreak _ | .frameSent _ | .requestBadKind .. | .lineReturnHigh _
  | .stationStartByte .. | .stationLengthReject .. | .cabinetStartByte _ | .cabinetLengthReject _ | .resetLineRelease
  | .powerLoss => s

/-- The body of a request taken on its port (R184). -/
def takeRequest (p : Port) (body : List Byte) (s : State) : State :=
  match parseRequest p body with
  | some (.command i) => takeCommand i s
  | some (.badKind kind tag) => takeBadKind p kind tag s
  | some (.badFields k tag) => serve p tag k none s
  | none => s

/-- REQUEST_BAD_KIND (R184): a frame whose body is a kind and a tag, the kind none of the table. -/
def execRequestBadKind (p : Port) (kind tag : Byte) (s : State) : Host.Outcome State Fault Refusal :=
  .next (offer p (requestBody (.requestBadKind p kind tag)) (takeRequest p [kind, tag]) s)

/-- The body of a cabinet message taken (R188). -/
def takeCabinetMessage (body : List Byte) (s : State) : State :=
  match parseCabinet body with
  | some i => takeCommand i s
  | none => s

/-- A link with a frame whose turn has come. -/
inductive Source where
  | port (p : Port)
  | cabinet
deriving DecidableEq, Repr

/-- The links with a frame whose turn has come (R183, R188). -/
def State.waitingLinks (s : State) : List Source :=
  ((List.finRange 4).filter fun p => !(s.slu.get p).buffer.isEmpty && (s.slu.get p).mayTake).map .port ++
    (if s.kci.buffer.isEmpty then [] else [.cabinet])

/-- The oldest frame of a link taken from its buffer (R183, R188). -/
def takeFrom (x : Source) (s : State) : State :=
  match x with
  | .port p =>
    match (s.slu.get p).buffer with
    | [] => s
    | body :: rest => takeRequest p body (s.updLink p fun l => { l with buffer := rest })
  | .cabinet =>
    match s.kci.buffer with
    | [] => s
    | body :: rest => takeCabinetMessage body { s with kci := { s.kci with buffer := rest } }

/-- One waiting frame taken, if any waits; the choice among several links is free (R183; assumptions 1 and 9). -/
def takeWaiting (s : State) : State :=
  if !s.live then s
  else
    match s.waitingLinks with
    | [] => s
    | [x] => takeFrom x s
    | x :: y :: xs =>
      takeFrom ((x :: y :: xs).getD (Config.linkChoice s.choices % (x :: y :: xs).length) x)
        { s with choices := s.choices + 1 }

end Sys2Proof.Machine
end

