-- ==== Sys2Proof/Machine/Dispatch.lean ====
section
/-! DEFINITION. One arm for each command. -/

namespace Sys2Proof.Machine

def exec (i : Instr) (s : State) : Host.Outcome State Fault Refusal :=
  match i with
  | .powerOn retainedPasses storePasses => Sys2Proof.Machine.execPowerOn retainedPasses storePasses s
  | .resetLine retainedPasses storePasses => Sys2Proof.Machine.execResetLine retainedPasses storePasses s
  | .serviceTick => Sys2Proof.Machine.execServiceTick s
  | .minuteEvent => Sys2Proof.Machine.execMinuteEvent s
  | .releaseLapse hook => Sys2Proof.Machine.execReleaseLapse hook s
  | .removalWindowExpiry hook => Sys2Proof.Machine.execRemovalWindowExpiry hook s
  | .runOverdue runner => Sys2Proof.Machine.execRunOverdue runner s
  | .runLost runner => Sys2Proof.Machine.execRunLost runner s
  | .bankScanTimeout => Sys2Proof.Machine.execBankScanTimeout s
  | .hung slot word => Sys2Proof.Machine.execHung slot word s
  | .lifted slot => Sys2Proof.Machine.execLifted slot s
  | .sensorFault slot => Sys2Proof.Machine.execSensorFault slot s
  | .bankState bank presence words => Sys2Proof.Machine.execBankState bank presence words s
  | .cabinetFrameReceived bytes => Sys2Proof.Machine.execCabinetFrameReceived bytes s
  | .cabinetFrameGap => Sys2Proof.Machine.execCabinetFrameGap s
  | .cabinetCommandSent => Sys2Proof.Machine.execCabinetCommandSent s
  | .stationFrameReceived port bytes => Sys2Proof.Machine.execStationFrameReceived port bytes s
  | .stationFrameGap port => Sys2Proof.Machine.execStationFrameGap port s
  | .lineBreak port => Sys2Proof.Machine.execLineBreak port s
  | .frameSent port => Sys2Proof.Machine.execFrameSent port s
  | .requestBadKind port kind tag => Sys2Proof.Machine.execRequestBadKind port kind tag s
  | .issue port tag carClass priority guestRef departureGiven offset sec => Sys2Proof.Machine.execIssue port tag carClass priority guestRef departureGiven offset sec s
  | .amend port tag ticket departureAction offset guestRefGiven guestRef priority => Sys2Proof.Machine.execAmend port tag ticket departureAction offset guestRefGiven guestRef priority s
  | .queryTicketByNumber port tag ticket startNumber => Sys2Proof.Machine.execQueryTicketByNumber port tag ticket startNumber s
  | .queryTicketByGuest port tag guestRef startNumber => Sys2Proof.Machine.execQueryTicketByGuest port tag guestRef startNumber s
  | .parked port tag ticket space => Sys2Proof.Machine.execParked port tag ticket space s
  | .recallByNumber port tag ticket sec => Sys2Proof.Machine.execRecallByNumber port tag ticket sec s
  | .recallByGuest port tag guestRef sec => Sys2Proof.Machine.execRecallByGuest port tag guestRef sec s
  | .cancel port tag ticket => Sys2Proof.Machine.execCancel port tag ticket s
  | .dispatchMask port tag levels => Sys2Proof.Machine.execDispatchMask port tag levels s
  | .runnerDutyOn port tag runner team => Sys2Proof.Machine.execRunnerDutyOn port tag runner team s
  | .runnerDutyOff port tag runner team => Sys2Proof.Machine.execRunnerDutyOff port tag runner team s
  | .queryRunner port tag runner => Sys2Proof.Machine.execQueryRunner port tag runner s
  | .reopen port tag runner => Sys2Proof.Machine.execReopen port tag runner s
  | .staged port tag ticket bay => Sys2Proof.Machine.execStaged port tag ticket bay s
  | .handover port tag ticket => Sys2Proof.Machine.execHandover port tag ticket s
  | .returnCar port tag ticket => Sys2Proof.Machine.execReturnCar port tag ticket s
  | .bayHoldSet port tag bay => Sys2Proof.Machine.execBayHoldSet port tag bay s
  | .bayHoldClear port tag bay => Sys2Proof.Machine.execBayHoldClear port tag bay s
  | .keyClaim port tag hook ticket => Sys2Proof.Machine.execKeyClaim port tag hook ticket s
  | .releaseHook port tag hook => Sys2Proof.Machine.execReleaseHook port tag hook s
  | .substitute port tag hook => Sys2Proof.Machine.execSubstitute port tag hook s
  | .retire port tag hook => Sys2Proof.Machine.execRetire port tag hook s
  | .restore port tag hook => Sys2Proof.Machine.execRestore port tag hook s
  | .cabinetDiag port tag bank => Sys2Proof.Machine.execCabinetDiag port tag bank s
  | .zoneStateOpen port tag zone => Sys2Proof.Machine.execZoneStateOpen port tag zone s
  | .zoneStateClose port tag zone => Sys2Proof.Machine.execZoneStateClose port tag zone s
  | .spaceServiceOut port tag space => Sys2Proof.Machine.execSpaceServiceOut port tag space s
  | .spaceServiceReturn port tag space => Sys2Proof.Machine.execSpaceServiceReturn port tag space s
  | .querySpace port tag space => Sys2Proof.Machine.execQuerySpace port tag space s
  | .configureZone port tag zone base size depth walk zoneClass team0 team1 team2 team3 => Sys2Proof.Machine.execConfigureZone port tag zone base size depth walk zoneClass team0 team1 team2 team3 s
  | .configureZoneRemove port tag zone => Sys2Proof.Machine.execConfigureZoneRemove port tag zone s
  | .configurePort port tag target roles baseLevel defaultSection alertEnables => Sys2Proof.Machine.execConfigurePort port tag target roles baseLevel defaultSection alertEnables s
  | .configureParams port tag k slack window l => Sys2Proof.Machine.execConfigureParams port tag k slack window l s
  | .tune port tag k slack window l => Sys2Proof.Machine.execTune port tag k slack window l s
  | .commitSetup port tag => Sys2Proof.Machine.execCommitSetup port tag s
  | .coldStart port tag => Sys2Proof.Machine.execColdStart port tag s
  | .clearAlert port tag flags => Sys2Proof.Machine.execClearAlert port tag flags s
  | .status port tag => Sys2Proof.Machine.execStatus port tag s
  | .lineReturnHigh port => Sys2Proof.Machine.execLineReturnHigh port s
  | .stationStartByte port byte => Sys2Proof.Machine.execStationStartByte port byte s
  | .stationLengthReject port length => Sys2Proof.Machine.execStationLengthReject port length s
  | .cabinetStartByte byte => Sys2Proof.Machine.execCabinetStartByte byte s
  | .cabinetLengthReject length => Sys2Proof.Machine.execCabinetLengthReject length s
  | .resetLineRelease => Sys2Proof.Machine.execResetLineRelease s
  | .powerLoss => Sys2Proof.Machine.execPowerLoss s

end Sys2Proof.Machine
end

