-- ==== Sys2Proof/Machine/Step.lean ====
section
/-! DEFINITION. The step: the command at the front of the queue, or a waiting frame when the queue is empty. -/

namespace Sys2Proof.Machine

/-- One step: the command at the front of the queue is executed with the queue's rest. On an empty queue the blocks
take one frame that waits in a receive buffer, if any does, and otherwise idle (assumption 1). -/
def step (s : State) : Host.Outcome State Fault Refusal :=
  match s.pending with
  | [] => .next (takeWaiting s)
  | c :: rest => exec c { s with pending := rest }

/-- The state with the command that a word spells put at the front of the queue. No row of the table has bits, so no
word spells a command and the state is unchanged (assumption 3). -/
def State.withFetchWord (s : State) (nbits w : Nat) : State :=
  match decodeTableWord nbits w with
  | some c => { s with pending := c :: s.pending }
  | none => s

end Sys2Proof.Machine
end

