-- ==== Sys2Proof/WellFormed.lean ====
section
/-! DEFINITION. The operands a command may carry: the ranges of section 11.6.1 and of the owning rules. A command that
is not well formed still has its meaning (a request is answered BAD_FIELD, a frame is discarded). -/

namespace Sys2Proof

open Machine

/-- The request kind of a command that stands for a request, with its port and tag (section 11.6.2). -/
def Instr.request? : Instr → Option (Port × Byte × ReqKind)
  | .issue p tag .. => some (p, tag, .issue)
  | .amend p tag .. => some (p, tag, .amend)
  | .queryTicketByNumber p tag .. => some (p, tag, .queryTicket)
  | .queryTicketByGuest p tag .. => some (p, tag, .queryTicket)
  | .parked p tag .. => some (p, tag, .parked)
  | .recallByNumber p tag .. => some (p, tag, .recall)
  | .recallByGuest p tag .. => some (p, tag, .recall)
  | .cancel p tag _ => some (p, tag, .cancel)
  | .dispatchMask p tag _ => some (p, tag, .dispatchMask)
  | .runnerDutyOn p tag .. => some (p, tag, .runnerDuty)
  | .runnerDutyOff p tag .. => some (p, tag, .runnerDuty)
  | .queryRunner p tag _ => some (p, tag, .queryRunner)
  | .reopen p tag _ => some (p, tag, .reopen)
  | .staged p tag .. => some (p, tag, .staged)
  | .handover p tag _ => some (p, tag, .handover)
  | .returnCar p tag _ => some (p, tag, .returnCar)
  | .bayHoldSet p tag _ => some (p, tag, .bayHold)
  | .bayHoldClear p tag _ => some (p, tag, .bayHold)
  | .keyClaim p tag .. => some (p, tag, .keyClaim)
  | .releaseHook p tag _ => some (p, tag, .releaseHook)
  | .substitute p tag _ => some (p, tag, .substitute)
  | .retire p tag _ => some (p, tag, .retire)
  | .restore p tag _ => some (p, tag, .restore)
  | .cabinetDiag p tag _ => some (p, tag, .cabinetDiag)
  | .zoneStateOpen p tag _ => some (p, tag, .zoneState)
  | .zoneStateClose p tag _ => some (p, tag, .zoneState)
  | .spaceServiceOut p tag _ => some (p, tag, .spaceService)
  | .spaceServiceReturn p tag _ => some (p, tag, .spaceService)
  | .querySpace p tag _ => some (p, tag, .querySpace)
  | .configureZone p tag .. => some (p, tag, .configure)
  | .configureZoneRemove p tag _ => some (p, tag, .configure)
  | .configurePort p tag .. => some (p, tag, .configure)
  | .configureParams p tag .. => some (p, tag, .configure)
  | .tune p tag .. => some (p, tag, .tune)
  | .commitSetup p tag => some (p, tag, .commitSetup)
  | .coldStart p tag => some (p, tag, .coldStart)
  | .clearAlert p tag _ => some (p, tag, .clearAlert)
  | .status p tag => some (p, tag, .status)
  | .powerOn .. | .resetLine .. | .serviceTick | .minuteEvent | .releaseLapse _ | .removalWindowExpiry _
  | .runOverdue _ | .runLost _ | .bankScanTimeout | .hung .. | .lifted _ | .sensorFault _ | .bankState ..
  | .cabinetFrameReceived _ | .cabinetFrameGap | .cabinetCommandSent | .stationFrameReceived .. | .stationFrameGap _
  | .lineBreak _ | .frameSent _ | .requestBadKind .. | .lineReturnHigh _ | .stationStartByte ..
  | .stationLengthReject .. | .cabinetStartByte _ | .cabinetLengthReject _ | .resetLineRelease | .powerLoss => none

/-- A byte field is a number below `n`. -/
def below (n : Nat) (b : Byte) : Bool := decide (b.toNat < n)

/-- A byte field is a number below `n`, or FFh for absent. -/
def belowOrAbsent (n : Nat) (b : Byte) : Bool := below n b || b == 0xFF

/-- A TicketNumber or GuestRef that names something. -/
def named (n : BitVec 16) : Bool := n != 0

/-- The geometry of a ZONE item (R2 checks 2, 3 and 6). -/
def goodWindow (base size : BitVec 16) (depth : Byte) : Bool :=
  [16, 32, 64, 128, 256, 512].contains size.toNat && [1, 2, 4].contains depth.toNat &&
    base.toNat % size.toNat == 0 && decide (base.toNat + size.toNat ≤ 1024)

/-- Every operand of a command lies in its range. -/
def Instr.wellFormed : Instr → Bool
  | .issue _ _ cc pr _ dg _ c => below 2 cc && below 8 pr && below 2 dg && belowOrAbsent 4 c
  | .amend _ _ n a _ gg _ pr => named n && below 3 a && below 2 gg && belowOrAbsent 8 pr
  | .queryTicketByNumber _ _ n _ => named n
  | .queryTicketByGuest _ _ g _ => named g
  | .parked _ _ n sp => named n && decide (sp.toNat < 1024)
  | .recallByNumber _ _ n c => named n && belowOrAbsent 4 c
  | .recallByGuest _ _ g c => named g && belowOrAbsent 4 c
  | .cancel _ _ n | .handover _ _ n | .returnCar _ _ n => named n
  | .runnerDutyOn _ _ r tm => below 32 r && below 4 tm
  | .runnerDutyOff _ _ r _ | .queryRunner _ _ r | .reopen _ _ r => below 32 r
  | .staged _ _ n b => named n && below 8 b
  | .bayHoldSet _ _ b | .bayHoldClear _ _ b => below 8 b
  | .keyClaim _ _ h n => decide (h.toNat < 512) && named n
  | .releaseHook _ _ h | .substitute _ _ h | .retire _ _ h | .restore _ _ h => decide (h.toNat < 512)
  | .cabinetDiag _ _ b => below 16 b
  | .zoneStateOpen _ _ z | .zoneStateClose _ _ z | .configureZoneRemove _ _ z => below 8 z
  | .spaceServiceOut _ _ sp | .spaceServiceReturn _ _ sp | .querySpace _ _ sp => decide (sp.toNat < 1024)
  | .configureZone _ _ z b n d _ c t0 t1 t2 t3 =>
    below 8 z && below 3 c && goodWindow b n d && belowOrAbsent 4 t0 && belowOrAbsent 4 t1 && belowOrAbsent 4 t2 &&
      belowOrAbsent 4 t3
  | .configurePort _ _ q rs bl ds ae =>
    below 4 q && below 16 rs && below 8 bl && below 4 ds && decide (ae.toNat < 2048)
  | .clearAlert _ _ f => decide (f.toNat < 2048)
  | .requestBadKind _ k _ => (reqKind? k).isNone
  | .bankState b p ws => below 16 b && decide (p.toNat < 2 ^ 34) && bankStateSized p ws
  | .stationFrameReceived _ bs => decide (bs.length ≤ 66)
  | .cabinetFrameReceived bs => decide (bs.length ≤ 113)
  | .dispatchMask .. | .configureParams .. | .tune .. | .commitSetup .. | .coldStart .. | .status ..
  | .powerOn .. | .resetLine .. | .serviceTick | .minuteEvent | .releaseLapse _ | .removalWindowExpiry _
  | .runOverdue _ | .runLost _ | .bankScanTimeout | .hung .. | .lifted _ | .sensorFault _ | .cabinetFrameGap
  | .cabinetCommandSent | .stationFrameGap _ | .lineBreak _ | .frameSent _ | .lineReturnHigh _ | .stationStartByte ..
  | .stationLengthReject .. | .cabinetStartByte _ | .cabinetLengthReject _ | .resetLineRelease | .powerLoss => true

end Sys2Proof
end

