-- ==== Sys2Proof/Safety.lean ====
section
/-! DEFINITION. What the manual says of every state: the laws that the steps keep; when a command is taken at once; and
what an event leaves on the links and of a key that left its place. -/

namespace Sys2Proof.Machine

/-! ## When a command is taken -/

/-- A request on a port is taken at once: the part is live, the line is not held low, nothing waits before it, and the
transmit queue has a place (R183, R187). -/
def State.takesRequest (s : State) (p : Port) : Bool :=
  s.live && !(s.slu.get p).lineLow && (s.slu.get p).buffer.isEmpty && (s.slu.get p).mayTake

/-- A request of a kind on a port is taken at once and passes the checks of role and mode (R184). -/
def State.serves (s : State) (p : Port) (k : ReqKind) : Bool :=
  s.takesRequest p && s.mayAsk p k && (modeRefusal k s.mc.mode).isNone

/-- A cabinet message is taken at once (R188). -/
def State.takesCabinet (s : State) : Bool := s.live && s.kci.buffer.isEmpty

/-- Nothing waits for a pass or an arbitration: the wait queue and the recall queue are empty. -/
def State.quiet (s : State) : Bool := s.sa.waitQueue.isEmpty && s.da.queue.isEmpty

/-- No runner is FREE or ASSIGNED, so that an arbitration finds neither a runner nor a victim (R114, R116). -/
def State.unstaffed (s : State) : Bool :=
  (List.finRange 32).all fun r => (s.da.runners.get r).duty != .free && (s.da.runners.get r).duty != .assigned

/-! ## What an event leaves on the links -/

/-- A request answered with no notice: its response joins the transmit queue of its port, whose receiver hunts again
(R185, R186). -/
def State.answered (p : Port) (k : ReqKind) (tag : Byte) (r : ResultCode) (pl : Payload) (s : State) : State :=
  s.updLink p fun l => { l with receiver := .hunting, tx := l.tx ++ [.response (k.code + 0x40) tag r pl] }

/-- Nothing but notices joined a transmit queue, in order, or was discarded with NoticeOverflow set (R186). -/
def StationLink.Noticed (a b : StationLink) : Prop :=
  ∃ ns : List Notice, b.tx = a.tx ++ ns.map Frame.notice ∧ (a.overflow = true → b.overflow = true) ∧
    b.receiver = a.receiver ∧ b.buffer = a.buffer ∧ b.lineLow = a.lineLow ∧ b.lineOut = a.lineOut

/-- Nothing but notices went out on any port. -/
def State.Noticed (s t : State) : Prop := ∀ p, (s.slu.get p).Noticed (t.slu.get p)

/-- A request answered: its response joins the transmit queue of its port, any notices of the event behind it, and
nothing but notices joins the others (R185, R186).That they stand behind it where the owning rule does not say so is
assumption 26. -/
def State.Answered (s t : State) (p : Port) (k : ReqKind) (tag : Byte) (r : ResultCode) (pl : Payload) : Prop :=
  (∀ q, q ≠ p → (s.slu.get q).Noticed (t.slu.get q)) ∧
    ∃ ns : List Notice,
      (t.slu.get p).tx = (s.slu.get p).tx ++ .response (k.code + 0x40) tag r pl :: ns.map Frame.notice ∧
      (t.slu.get p).receiver = .hunting ∧ (t.slu.get p).buffer = (s.slu.get p).buffer ∧
      (t.slu.get p).lineLow = (s.slu.get p).lineLow ∧ (t.slu.get p).lineOut = (s.slu.get p).lineOut

/-- A notice went out to a set of ports: each of them holds it in its transmit queue, unless notices were lost there
(R186). -/
def State.Told (t : State) (ports : PortSet) (n : Notice) : Prop :=
  ∀ p : Port, ports.getLsbD p.val = true → (t.slu.get p).overflow = false → Frame.notice n ∈ (t.slu.get p).tx

/-- The queue of commands, the supply, the reset line and the count of free choices are as they were. -/
def State.SameOuter (s t : State) : Prop :=
  t.pending = s.pending ∧ t.powered = s.powered ∧ t.held = s.held ∧ t.choices = s.choices

/-- Every alert flag record but one is as it was, and so are the enable sets. -/
def State.SameAlertsBut (s t : State) (f : AlertFlag) : Prop :=
  (∀ g, g ≠ f → t.alert g = s.alert g) ∧ t.au.enables = s.au.enables

/-! ## Laws -/

/-- The links hold no more frames than they may (R183, R186, R188). -/
def State.LinkBounds (s : State) : Prop :=
  (∀ p, (s.slu.get p).tx.length ≤ Config.txCapacity ∧ (s.slu.get p).buffer.length ≤ Config.rxCapacity) ∧
    s.kci.buffer.length ≤ Config.cabinetRxCapacity

/-- The saturating counters stay in their ranges (R98, R137, R159, R162). -/
def State.CounterBounds (s : State) : Prop :=
  s.tb.minute ≤ Config.maxMinute ∧ s.da.seq ≤ Config.maxStamp ∧ (∀ i, (s.au.flags.get i).count ≤ 255) ∧
    ∀ r run, s.run? r = some run → run.elapsed ≤ 255 ∧ run.threshold ≤ 254

/-- Each attention line is asserted exactly while the port's enable set meets the set flags (R166). -/
def State.AttentionLaw (s : State) : Prop :=
  ∀ p, s.au.attention.get p = (s.au.enables.get p &&& s.au.setMask != 0)

/-- What Mode Control's fields say of one another (R168, R169, R177). -/
def State.ModeLaw (s : State) : Prop :=
  s.mc.storeValid = s.mc.store.isSome ∧ s.mc.retainedValid = s.mc.commitMark ∧
    (s.powered = true → (s.mc.commitMark = true ↔ s.mc.mode ≠ .setup)) ∧
    (s.mc.scanBank.isSome = true ↔ s.mc.mode = .recovery) ∧ s.mc.scanWaited < Config.scanTicks ∧
    s.mc.silentBanks ≤ 16 ∧ ∀ b, s.mc.scanBank = some b → s.mc.silentBanks ≤ b.val

/-- A zone record lies as R1 and R3 ask. -/
def ZoneRec.placed (r : ZoneRec) : Prop :=
  r.size ∈ [16, 32, 64, 128, 256, 512] ∧ r.depth ∈ [1, 2, 4] ∧ 1 ≤ r.walk ∧ r.walk ≤ 40 ∧ r.base % r.size = 0 ∧
    r.base + r.size ≤ 1024

/-- The windows of a zone table are placed and share no space (R3). -/
def ZonesApart (zones : Table 8 (Option ZoneRec)) : Prop :=
  (∀ z r, zones.get z = some r → r.placed) ∧
    ∀ y z a b, zones.get y = some a → zones.get z = some b → y ≠ z → a.base + a.size ≤ b.base ∨ b.base + b.size ≤ a.base

/-- The zone windows of the working configuration, of the settings store and of the table in force never overlap (R3);
the lane records stand in ascending FrontSpace, share no space, and lie each in a zone of its Depth (R8, R10). -/
def State.ZoneLaw (s : State) : Prop :=
  ZonesApart s.mc.working.zones ∧ (∀ c, s.mc.store = some c → ZonesApart c.zones) ∧
    ZonesApart (s.sa.zones.map fun z => z.map Zone.toZoneRec) ∧
    s.sa.lanes.Pairwise (fun a b => a.front.val + a.depth ≤ b.front.val) ∧
    ∀ l ∈ s.sa.lanes, 1 ≤ l.depth ∧ ∃ z r, s.sa.zones.get z = some r ∧ r.depth = l.depth ∧
      r.base ≤ l.front.val ∧ l.front.val + l.depth ≤ r.base + r.size

/-- The command queue of the cabinet holds at most one latch command for each slot and at most one SCAN (R189). -/
def State.CommandLaw (s : State) : Prop :=
  (s.kci.commands.filterMap CabinetCommand.slot?).Nodup ∧
    (s.kci.commands.filter fun c => c.slot?.isNone).length ≤ 1

/-- A ticket is named by at most one recall entry, and the entries stand in queue order: Level, then Stamp, then
TicketNumber (R97, R98, R99). -/
def State.EntryLaw (s : State) : Prop :=
  (s.da.queue.map Entry.ticket).Nodup ∧
    s.da.queue.Pairwise fun a b =>
      a.level.val < b.level.val ∨
        (a.level = b.level ∧ (a.stamp < b.stamp ∨ (a.stamp = b.stamp ∧ a.ticket.toNat < b.ticket.toNat)))

/-- The records stand in ascending TicketNumber, so that no two carry the same number, no number is 0, and there are
never more than 512 (R17, R21, R22). -/
def State.TicketLaw (s : State) : Prop :=
  s.ct.tickets.Pairwise (fun a b => a.number.toNat < b.number.toNat) ∧ (∀ t ∈ s.ct.tickets, t.number ≠ 0) ∧
    s.ct.nextNumber ≠ 0 ∧ s.ct.tickets.length ≤ Config.maxTickets

/-- No two active entries of a bank name the same position, a Retired hook is EMPTY and has no active entry, and a
hook in AWAIT_REHANG carries from its own primary slot to an active entry (R60, R84, R86). -/
def State.SubstLaw (s : State) : Prop :=
  (∀ b, (s.entry b 0).active = true → (s.entry b 1).active = true → (s.entry b 0).position ≠ (s.entry b 1).position) ∧
    (∀ h, (s.hook h).retired = true → (s.hook h).occ = .empty ∧ s.activeEntry? h = none) ∧
    ∀ h n c, (s.hook h).occ = .awaitRehang n c → c = (primarySlot h).num ∧ (s.activeEntry? h).isSome = true

/-- Outside SERVICE no entry is pending, every runner is OFF and no run exists (R110, R120). -/
def State.RosterLaw (s : State) : Prop :=
  s.mc.mode ≠ .service →
    s.da.queue = [] ∧ ∀ r, (s.da.runners.get r).duty = .off ∧ s.run? r = none

/-! ## Laws of custody -/

/-- The ticket a hook records (R60). -/
def Occupancy.ticket? : Occupancy → Option TicketNo
  | .holding n | .released n | .awaitRehang n _ => some n
  | .empty | .unverified | .stray => none

/-- A hook records a ticket exactly when that ticket's KeyPlace is ON_HOOK naming that hook (R61). -/
def State.HookKeyLaw (s : State) : Prop :=
  ∀ h n, (s.hook h).occ.ticket? = some n ↔ ∃ t, s.ticket? n = some t ∧ t.key = .onHook h

/-- A slot is commanded unlatched exactly in the three cases of R62; just an UNVERIFIED or STRAY hook is open for removal
(R79); and a latch command that waits for a slot asks for the slot's commanded state (R189). -/
def State.LatchLaw (s : State) : Prop :=
  (∀ sl : Slot, s.kci.latched.get (slotIdx sl) = false ↔
    ∃ h, (s.hookSlot h = sl ∧ ((∃ n, (s.hook h).occ = .released n) ∨ (s.hook h).openForRemoval = true)) ∨
      ∃ n c, (s.hook h).occ = .awaitRehang n c ∧ (sl = ⟨hookBank h, c⟩ ∨ sl = s.hookSlot h)) ∧
    (∀ h, (s.hook h).openForRemoval = true → (s.hook h).occ = .unverified ∨ (s.hook h).occ = .stray) ∧
    ∀ sl : Slot, (.latch sl ∈ s.kci.commands → s.kci.latched.get (slotIdx sl) = true) ∧
      (.unlatch sl ∈ s.kci.commands → s.kci.latched.get (slotIdx sl) = false)

/-- A runner is ASSIGNED or COMMITTED exactly when a run names it, and COMMITTED exactly when that run is committed
(R117, R133). -/
def State.RunnerRunLaw (s : State) : Prop :=
  ∀ r, ((s.da.runners.get r).duty = .assigned ∨ (s.da.runners.get r).duty = .committed ↔ (s.run? r).isSome = true) ∧
    ∀ q, s.run? r = some q → ((s.da.runners.get r).duty = .committed ↔ q.committed = true)

/-- The claims a ticket of each State has (the table of R18), and when its FormerState is present (R17). -/
def State.claimsFit (s : State) (t : Ticket) : Prop :=
  let held (f : Option SpaceNo) : Prop := ∃ sp, f = some sp ∧ s.spaceRec sp = .held t.number
  let occupied (f : Option SpaceNo) : Prop := ∃ sp, f = some sp ∧ s.spaceRec sp = .occupied t.number
  (t.formerState.isSome = true ↔ t.state = .unconfirmed) ∧
    match t.state with
    | .awaitingSpace | .staged => t.space = none ∧ t.nextSpace = none
    | .inbound | .returning => held t.space ∧ t.nextSpace = none
    | .outbound => occupied t.space ∧ t.nextSpace = none
    | .parked | .relocating => occupied t.space ∧ (t.nextSpace = none ∨ held t.nextSpace)
    | .unconfirmed => t.nextSpace = none ∨ (held t.nextSpace ∧ t.formerState = some .relocating)

/-- The space-claim law (R43): a space records a ticket exactly when the ticket names it, never in both fields, and each
ticket has the claims of its State. Lanes lie in the garage (R8). -/
def State.ClaimLaw (s : State) : Prop :=
  (∀ sp n, (s.spaceRec sp).ticket? = some n ↔
      ∃ t, s.ticket? n = some t ∧ (t.space = some sp ∨ t.nextSpace = some sp)) ∧
    (∀ t ∈ s.ct.tickets, (∀ sp, t.space = some sp → t.nextSpace ≠ some sp) ∧ s.claimsFit t) ∧
    (∀ l ∈ s.sa.lanes, l.front.val + l.depth ≤ 1024) ∧
    (s.powered = true → s.mc.mode = .setup → s.ct.tickets = [])

/-- The wait queue holds each AWAITING_SPACE ticket once and no other, and SPACE_WAIT is set exactly while it is not
empty (R46). -/
def State.WaitLaw (s : State) : Prop :=
  s.sa.waitQueue.Nodup ∧ (∀ n, n ∈ s.sa.waitQueue ↔ ∃ t, s.ticket? n = some t ∧ t.state = .awaitingSpace) ∧
    (s.powered = true → ((s.alert .spaceWait).set = true ↔ s.sa.waitQueue ≠ []))

/-- The ticket of a step stands as the step says (R122, R126, R128, R129). -/
def RunStep.ticketFits (st : RunStep) (q : Run) (t : Ticket) : Prop :=
  if q.kind = .return_ then t.state = .returning ∨ t.state = .awaitingSpace ∨ t.state = .inbound
  else
    t.state = (if st.state = .carried then (if st.role = .blocker then .relocating else .outbound) else .parked) ∧
      (st.role = .target ∨ st.state = .done → t.nextSpace = none)

/-- A run's steps in working order (R121, R122): the last is the TARGET step, those before the current one are DONE and
those after it WAITING; their tickets are apart, each names the runner, and a RELEASED step's key is RELEASED on its
hook. Before the commit point the current step is step 0, not CARRIED; a RETURN run has the one step, CARRIED. -/
def State.RunFits (s : State) (r : RunnerNo) (q : Run) : Prop :=
  (q.steps.map RunStep.ticket).Nodup ∧ q.currentStep < q.steps.length ∧
    (q.kind = .return_ → q.steps.length = 1 ∧ q.committed = true ∧ ∀ st ∈ q.steps, st.state = .carried) ∧
    ∀ i st, q.steps[i]? = some st →
      (st.role = .target ↔ i + 1 = q.steps.length) ∧ (st.role = .target → st.ticket = q.target) ∧
      (i < q.currentStep → st.state = .done) ∧ (q.currentStep < i → st.state = .waiting) ∧
      (i = q.currentStep → st.state = .released ∨ st.state = .lapsed ∨ st.state = .carried) ∧
      (q.committed = false → q.currentStep = 0 ∧ st.state ≠ .carried) ∧
      (st.state = .released → ∃ h, st.hook = some h ∧ (s.hook h).occ = .released st.ticket) ∧
      ∃ t, s.ticket? st.ticket = some t ∧ t.run = some r ∧ st.ticketFits q t

/-- Every run fits its tickets; a ticket names a run just as one of its steps; a ticket has NextSpace just while a step
of a run, or UNCONFIRMED; and a RELEASED hook is that of a current step (R17, R43, R69, R73, R122). -/
def State.RunLaw (s : State) : Prop :=
  (∀ r q, s.run? r = some q → s.RunFits r q) ∧
    (s.powered = true →
      (∀ t ∈ s.ct.tickets,
        (∀ r, t.run = some r → ∃ q, s.run? r = some q ∧ t.number ∈ q.steps.map RunStep.ticket) ∧
        (t.nextSpace.isSome = true → t.run.isSome = true ∨ t.state = .unconfirmed) ∧
        (t.state = .staged ∨ t.state = .unconfirmed → t.run = none)) ∧
      ∀ h n, (s.hook h).occ = .released n → s.currentIs n .released = true)

/-- The three laws of tickets, spaces and runs that hold together. -/
def State.CustodyLaw (s : State) : Prop := s.ClaimLaw ∧ s.WaitLaw ∧ s.RunLaw

/-- The safe states: those in which every law above holds. -/
def State.Safe (s : State) : Prop :=
  s.LinkBounds ∧ s.CounterBounds ∧ s.AttentionLaw ∧ s.ModeLaw ∧ s.ZoneLaw ∧ s.CommandLaw ∧ s.EntryLaw ∧
    s.TicketLaw ∧ s.SubstLaw ∧ s.RosterLaw ∧ s.HookKeyLaw ∧ s.LatchLaw ∧ s.RunnerRunLaw ∧ s.CustodyLaw

/-! ## A key that leaves its place -/

/-- What becomes of the cabinet and the alerts when the KeyPlace of a ticket gives up a place (R33, R77, R163). A key that
is not on a hook leaves the cabinet as it was; one that was MISSING has KEY_MISSING evaluated again. A hook HOLDING it
becomes STRAY, its slot kept latched; an open carry is abandoned, with LATCH for its CarrySlot and then its spare slot
(the order: assumption 23), and its hook becomes STRAY. STRAY_KEY is raised with the hook. -/
def State.KeyLeft (s u : State) (n : TicketNo) (k : KeyPlace) : Prop :=
  (k.isOnHook = false → u.kci = s.kci ∧ (k ≠ .missing → u.au = s.au)) ∧
    (k = .missing →
      let another : Prop := ∃ y ∈ s.ct.tickets, y.number ≠ n ∧ y.key = .missing
      s.SameAlertsBut u .keyMissing ∧
        ((s.alert .keyMissing).set = true → another → u.alert .keyMissing = s.alert .keyMissing) ∧
        ((s.alert .keyMissing).set = true → ¬ another → u.alert .keyMissing = ⟨false, none, 0⟩) ∧
        ((s.alert .keyMissing).set = false → ¬ another → u.alert .keyMissing = s.alert .keyMissing)) ∧
    ∀ h, k = .onHook h → s.SubstLaw → s.LatchLaw →
      let strayed (o : Hook) (kci : KeyCabinet) : Prop :=
        u.kci = { kci with hooks := s.kci.hooks.set h { o with occ := .stray } } ∧
          (u.alert .strayKey).set = true ∧ (u.alert .strayKey).subject = some (.hook h) ∧ s.SameAlertsBut u .strayKey
      ((s.hook h).occ = .holding n → strayed { s.hook h with windowLeft := 0 } s.kci) ∧
        ∀ c, (s.hook h).occ = .awaitRehang n c →
          let carry : Slot := ⟨hookBank h, c⟩
          let spare := s.hookSlot h
          strayed (s.hook h)
            { s.kci with
              latched := (s.kci.latched.set (slotIdx carry) true).set (slotIdx spare) true,
              commands := (s.kci.commands.filter fun x => x.slot? != some carry && x.slot? != some spare) ++
                [.latch carry, .latch spare] }

end Sys2Proof.Machine
end

