-- ==== Sys2Proof/Certificates/Slice0/Obligations.lean ====
section
/-! DEFINITION. The statements for the provers. -/

open Sys2Proof Sys2Proof.Machine

/-! ## The step, reset and the laws -/

/-- A step takes the command at the front of the queue and executes it with the queue's rest. -/
def Obligations.StepTakesFrontCommand : Prop :=
  ∀ (c : Instr) (rest : List Instr) (s : State),
    step { s with pending := c :: rest } = exec c { s with pending := rest }

/-- On an empty queue the part idles when it is not live or no frame waits; a frame that waits alone is taken; of
several waiting links one is served, whichever the free choice names (assumptions 1 and 9). -/
def Obligations.StepOnEmptyQueue : Prop :=
  ∀ s : State, s.pending = [] →
    (s.live = false ∨ s.waitingLinks = [] → step s = .next s) ∧
    (∀ x, s.live = true → s.waitingLinks = [x] → step s = .next (takeFrom x s)) ∧
    (s.live = true → 2 ≤ s.waitingLinks.length →
      ∃ x ∈ s.waitingLinks, step s = .next (takeFrom x { s with choices := s.choices + 1 }))

/-- The reset state holds the values the manual gives a first power-on, and it is safe. That the settings store is empty
there, and so that StoreValid is clear and the configuration is the default one, is the model's choice (assumption 13);
the manual gives the rest. -/
def Obligations.ResetState : Prop :=
  State.reset.Safe ∧
  State.reset.mc.mode = .setup ∧ State.reset.mc.cause = .powerCold ∧ State.reset.mc.commitMark = false ∧
  State.reset.mc.retainedValid = false ∧ State.reset.mc.storeValid = false ∧
  State.reset.mc.params = ⟨8, 8, 8, 0⟩ ∧
  (∀ p, State.reset.mc.ports.get p = ⟨if p = 0 then 8 else 0, 4, 0, 0⟩) ∧
  (∀ z, State.reset.mc.working.zones.get z = none ∧ State.reset.sa.zones.get z = none) ∧
  State.reset.ct.tickets = [] ∧ State.reset.ct.nextNumber = 1 ∧
  (∀ sp, State.reset.spaceRec sp = .unmapped) ∧ State.reset.sa.lanes = [] ∧ State.reset.sa.waitQueue = [] ∧
  (∀ h, State.reset.hook h = ⟨.empty, false, false, false, 0⟩) ∧
  (∀ i, State.reset.kci.subst.get i = ⟨false, 0⟩) ∧ State.reset.kci.latch.valid = false ∧
  State.reset.kci.commands.length = 544 ∧ (∀ i, State.reset.kci.latched.get i = true) ∧
  State.reset.da.queue = [] ∧ State.reset.da.seq = 0 ∧ State.reset.da.mask = 0xFF ∧
  (∀ r, State.reset.da.runners.get r = ⟨.off, 0, 0⟩ ∧ State.reset.run? r = none) ∧
  (∀ b, State.reset.bay b = ⟨.empty, none, none, false, false, false⟩) ∧ (∀ c, State.reset.fc.marker.get c = 0) ∧
  State.reset.tb = ⟨0, 0⟩ ∧ (∀ f, State.reset.alert f = ⟨false, none, 0⟩) ∧
  (∀ p, State.reset.au.enables.get p = 0 ∧ State.reset.au.attention.get p = false) ∧
  ∀ p, (State.reset.slu.get p).tx = [.notice (.mode .setup .powerCold 0)] ∧
    (State.reset.slu.get p).receiver = .hunting ∧ (State.reset.slu.get p).buffer = [] ∧
    (State.reset.slu.get p).overflow = false

/-- Every step keeps the bounds of the transmit queues and receive buffers, the law of the cabinet command queue (R183,
R186, R188, R189), the ranges of the minute counter, the sequence counter, the alert counts and the runs' counts (R98,
R137, R159, R162), and each attention line equal to the meeting of enable set and set flags (R166). -/
def Obligations.StepKeepsBlockLaws : Prop :=
  ∀ s t : State, step s = .next t →
    (s.LinkBounds → s.CommandLaw → t.LinkBounds ∧ t.CommandLaw) ∧ (s.CounterBounds → t.CounterBounds) ∧
    (s.AttentionLaw → t.AttentionLaw)

/-- Every step keeps what Mode Control's fields say of one another (R168, R169, R177), and the zone windows placed and
apart in the working configuration, the store and the table in force (R1, R3). -/
def Obligations.StepKeepsModeAndZoneLaws : Prop :=
  ∀ s t : State, step s = .next t → (s.ModeLaw → t.ModeLaw) ∧ (s.ZoneLaw → t.ZoneLaw)

/-- Every step keeps one recall entry at most for a ticket, the entries in queue order (R97 to R99), no entry, runner on
duty or run outside SERVICE (R110, R120), and a runner ASSIGNED or COMMITTED just while a run names it, COMMITTED just
while that run is committed (the runner-run law, R117). -/
def Obligations.StepKeepsArbiterLaws : Prop :=
  ∀ s t : State, step s = .next t →
    (s.EntryLaw → s.RosterLaw → t.EntryLaw ∧ t.RosterLaw) ∧ (s.RunnerRunLaw → t.RunnerRunLaw)

/-- Every step keeps the ticket records in ascending TicketNumber, none numbered 0, and at most 512 of them (R17, R21,
R22); and, given that, a hook recording a ticket just while the ticket's KeyPlace is ON_HOOK naming that hook (the
hook-key law, R61). -/
def Obligations.StepKeepsTicketAndKeyLaws : Prop :=
  ∀ s t : State, s.TicketLaw → step s = .next t → t.TicketLaw ∧ (s.HookKeyLaw → t.HookKeyLaw)

/-- Every step keeps the law of the substitution table (R60, R84, R86); and, given that, each slot's commanded latch
state, the openings for removal and the waiting latch commands as the hook map asks (the commanded-latch law, R62, R79,
R189). -/
def Obligations.StepKeepsHookMapLaws : Prop :=
  ∀ s t : State, s.SubstLaw → step s = .next t → t.SubstLaw ∧ (s.LatchLaw → t.LatchLaw)

/-- Every step keeps the laws of tickets, spaces and runs that hold together: a space records a ticket just while the
ticket names it, and each ticket has the claims of its State (the space-claim law, R43, R18); the wait queue holds just
the AWAITING_SPACE tickets, once each, and SPACE_WAIT is set just while it is not empty (the wait-queue law, R46); and
the runs and their steps fit the tickets, hooks and NextSpaces (R121, R122). The laws of records, keys, modes, zones and
runners are premises; each has its own statement. -/
def Obligations.StepKeepsCustodyLaws : Prop :=
  ∀ s t : State, s.TicketLaw → s.ZoneLaw → s.ModeLaw → s.RosterLaw → s.HookKeyLaw → s.RunnerRunLaw → s.CustodyLaw →
    step s = .next t → t.CustodyLaw

/-! ## The links' encodings -/

/-- The body of every request command, with every operand at every value its field admits, reads back as that command;
so does the body of every cabinet message that has the length its kind requires. -/
def Obligations.FrameBodiesReadBack : Prop :=
  (∀ (i : Instr) (p : Port) (tag : Byte) (k : ReqKind), i.request? = some (p, tag, k) →
    parseRequest p (requestBody i) = some (.command i)) ∧
  (∀ (p : Port) (k tag : Byte), reqKind? k = none →
    parseRequest p (requestBody (.requestBadKind p k tag)) = some (.badKind k tag)) ∧
  (∀ (sl : Slot) (w : BitVec 24), parseCabinet (cabinetBody (.hung sl w)) = some (.hung sl w)) ∧
  (∀ sl : Slot, parseCabinet (cabinetBody (.lifted sl)) = some (.lifted sl)) ∧
  (∀ sl : Slot, parseCabinet (cabinetBody (.sensorFault sl)) = some (.sensorFault sl)) ∧
  ∀ (b : Byte) (pr : BitVec 40) (ws : List (BitVec 24)),
    parseCabinet (cabinetBody (.bankState b pr ws)) = some (.bankState b pr ws)

/-- The bytes of a request's frame, received on an idle port and then taken, do exactly what the request command does.
That a received frame is taken in a step of its own is the model's choice (assumption 1). -/
def Obligations.FrameDoesWhatItsCommandDoes : Prop :=
  ∀ (i : Instr) (p : Port) (tag : Byte) (k : ReqKind) (s : State),
    i.request? = some (p, tag, k) → s.takesRequest p = true → (s.slu.get p).receiver = .hunting →
    s.waitingLinks = [] →
    ∃ t, exec (.stationFrameReceived p (wireFrame 0xA5 (requestBody i))) s = .next t ∧
      t = s.updLink p (fun l => { l with buffer := [requestBody i] }) ∧
      exec i s = .next (takeWaiting t)

/-- A complete and correct frame that arrives on a hunting receiver joins the receive buffer, or is discarded when the
buffer is full; nothing else changes. Both kinds of link. That the frame is only buffered in this step and taken in a
later one is the model's choice (assumption 1). -/
def Obligations.GoodFramesAreBuffered : Prop :=
  (∀ (s : State) (p : Port) (body : List Byte),
    s.live = true → (s.slu.get p).lineLow = false → (s.slu.get p).receiver = .hunting →
    2 ≤ body.length → body.length ≤ 62 →
    exec (.stationFrameReceived p (wireFrame 0xA5 body)) s =
      .next (if (s.slu.get p).buffer.length < 2 then
          s.updLink p fun l => { l with buffer := l.buffer ++ [body] }
        else s)) ∧
  (∀ (s : State) (body : List Byte),
    s.live = true → s.kci.receiver = .hunting → 2 ≤ body.length → body.length ≤ 109 →
    cabinetWellSized body = true →
    exec (.cabinetFrameReceived (wireFrame 0x5A body)) s =
      .next (if s.kci.buffer.length < 8 then { s with kci := { s.kci with buffer := s.kci.buffer ++ [body] } } else s))

/-- What single bytes, gaps, breaks and sendings do to the links, and that they change nothing else. That a frame is sent
whole in one event, with lineOut as its record, is the model's choice (assumption 14), and so is how a break and the
line's return high are kept (assumption 15). -/
def Obligations.LinkEvents : Prop :=
  ∀ (s : State) (p : Port) (b : Byte), s.live = true →
    ((s.slu.get p).lineLow = false → (s.slu.get p).receiver = .hunting →
      exec (.stationStartByte p b) s =
        .next (s.updLink p fun l => { l with receiver := if b = 0xA5 then .assembling [] else .hunting })) ∧
    ((s.slu.get p).lineLow = false → (s.slu.get p).receiver = .assembling [] →
      exec (.stationLengthReject p b) s =
        .next (s.updLink p fun l =>
          { l with receiver := if b.toNat < 2 ∨ 62 < b.toNat then .hunting else .assembling [b] })) ∧
    exec (.stationFrameGap p) s = .next (s.updLink p fun l => { l with receiver := .hunting }) ∧
    (s.kci.receiver = .hunting →
      exec (.cabinetStartByte b) s =
        .next { s with kci := { s.kci with receiver := if b = 0x5A then .assembling [] else .hunting } }) ∧
    (s.kci.receiver = .assembling [] →
      exec (.cabinetLengthReject b) s =
        .next { s with kci :=
          { s.kci with receiver := if b.toNat < 2 ∨ 109 < b.toNat then .hunting else .assembling [b] } }) ∧
    exec .cabinetFrameGap s = .next { s with kci := { s.kci with receiver := .hunting } } ∧
    (∀ f fs, (s.slu.get p).tx = f :: fs →
      exec (.frameSent p) s =
        .next (s.updLink p fun l => { l with tx := fs, lineOut := wireFrame 0xA5 f.body })) ∧
    ((s.slu.get p).tx = [] → exec (.frameSent p) s = .next s) ∧
    (∀ c cs, s.kci.commands = c :: cs →
      exec .cabinetCommandSent s =
        .next { s with kci := { s.kci with commands := cs, lineOut := wireFrame 0x5A c.body } }) ∧
    (s.kci.commands = [] → exec .cabinetCommandSent s = .next s) ∧
    (∃ t, exec (.lineBreak p) s = .next t ∧ (∀ q, q ≠ p → t.slu.get q = s.slu.get q) ∧
      { t with slu := s.slu } = s ∧
      (t.slu.get p).receiver = .hunting ∧ (t.slu.get p).buffer = [] ∧ (t.slu.get p).tx = [] ∧
      (t.slu.get p).lineLow = true ∧ (t.slu.get p).lineOut = (s.slu.get p).lineOut ∧
      ((t.slu.get p).overflow = true ↔
        (s.slu.get p).overflow = true ∨ ∃ n, Frame.notice n ∈ (s.slu.get p).tx)) ∧
    exec (.lineReturnHigh p) s = .next (s.updLink p fun l => { l with receiver := .hunting, lineLow := false })

/-! ## Requests in general -/

/-- Every request taken is answered by exactly one response, on its own port and before the notices of its event;
nothing but notices goes to the other ports. That it stands before them where the owning rule does not place it is the
model's reading of R164 and R185 (assumption 26). -/
def Obligations.EveryRequestIsAnsweredOnce : Prop :=
  ∀ (i : Instr) (p : Port) (tag : Byte) (k : ReqKind) (s : State),
    i.request? = some (p, tag, k) → s.takesRequest p = true →
    ∃ t r pl, exec i s = .next t ∧ s.Answered t p k tag r pl ∧ s.SameOuter t

/-- The checks of a request in their order: kind, role, mode, fields. The roles are those of the table of section
11.6.2, bit 0 PODIUM, 1 DESK, 2 DISPATCH, 3 MAINT. A request refused at one of the checks is answered with that check's
code, and nothing else changes. A frame whose body is not of the length the table gives for its kind (for CONFIGURE, for
the item named) waits like any other and is refused BAD_FIELD when it is taken, once role and mode are checked. -/
def Obligations.RequestChecks : Prop :=
  (∀ (i : Instr) (p : Port) (tag : Byte) (k : ReqKind) (s : State),
    i.request? = some (p, tag, k) → s.takesRequest p = true →
    let has (r : Nat) : Prop := (s.mc.ports.get p).roles.getLsbD r = true
    let allowed : Prop :=
      k ∈ [.queryTicket, .queryRunner, .querySpace, .status] ∨
      (has 0 ∧ k ∈ [.issue, .parked, .amend, .recall, .cancel, .staged, .handover, .returnCar, .bayHold, .keyClaim,
        .clearAlert]) ∨
      (has 1 ∧ k ∈ [.amend, .recall, .cancel, .bayHold]) ∨
      (has 2 ∧ k ∈ [.parked, .recall, .staged, .runnerDuty, .reopen, .dispatchMask, .zoneState, .spaceService,
        .clearAlert]) ∨
      (has 3 ∧ k ∈ [.keyClaim, .releaseHook, .substitute, .retire, .restore, .cabinetDiag, .zoneState, .spaceService,
        .configure, .tune, .commitSetup, .coldStart, .clearAlert])
    (s.mayAsk p k = true ↔ allowed) ∧
    (¬ allowed → exec i s = .next (s.answered p k tag .notPermitted .empty)) ∧
    (∀ r, allowed → modeRefusal k s.mc.mode = some r → exec i s = .next (s.answered p k tag r .empty)) ∧
    (allowed → modeRefusal k s.mc.mode = none → i.wellFormed = false →
      exec i s = .next (s.answered p k tag .badField .empty))) ∧
  (∀ (s : State) (p : Port) (k tag : Byte), reqKind? k = none → s.takesRequest p = true →
    exec (.requestBadKind p k tag) s =
      .next (s.updLink p fun l =>
        { l with receiver := .hunting,
                 tx := l.tx ++ [.response (if 0x60 ≤ k.toNat ∧ k.toNat ≤ 0x66 then 0xFF else k + 0x40) tag .badKind
                   .empty] })) ∧
  ∀ (s : State) (p : Port) (k : ReqKind) (tag : Byte) (fields : List Byte) (rest : List (List Byte)),
    s.pending = [] → s.live = true → s.waitingLinks = [.port p] →
    (s.slu.get p).buffer = (k.code :: tag :: fields) :: rest →
    let length : Nat :=
      match k with
      | .commitSetup | .coldStart | .status => 2
      | .reopen | .dispatchMask | .queryRunner | .cabinetDiag => 3
      | .cancel | .handover | .returnCar | .bayHold | .releaseHook | .substitute | .retire | .restore | .zoneState
      | .querySpace | .clearAlert => 4
      | .staged | .runnerDuty | .spaceService => 5
      | .parked | .recall | .keyClaim | .tune => 6
      | .queryTicket => 7
      | .issue => 10
      | .amend => 11
      | .configure =>
        if fields.head? = some 0 then 15 else if fields.head? = some 1 then 4 else if fields.head? = some 2 then 9
        else if fields.head? = some 3 then 7 else 0
    let code : ResultCode :=
      if s.mayAsk p k = false then .notPermitted else (modeRefusal k s.mc.mode).getD .badField
    fields.length + 2 ≠ length →
    step s =
      .next (s.updLink p fun l =>
        { l with buffer := rest, tx := l.tx ++ [.response (k.code + 0x40) tag code .empty] })

/-- The mode check: which kinds each mode serves, and how the others are refused, before any field is checked and with
no change of state. -/
def Obligations.ModeCheck : Prop :=
  ∀ (i : Instr) (p : Port) (tag : Byte) (k : ReqKind) (s : State),
    i.request? = some (p, tag, k) → s.takesRequest p = true → s.mayAsk p k = true →
    let refusal : Option ResultCode :=
      if k ∈ [.status, .clearAlert] then none
      else if k ∈ [.queryTicket, .querySpace, .queryRunner] then
        (if s.mc.mode = .setup then some .notReady else none)
      else if k ∈ [.configure, .commitSetup] then
        (if s.mc.mode = .setup then none else if s.mc.mode = .recovery then some .notReady else some .badState)
      else if k ∈ [.tune, .substitute, .retire, .restore, .cabinetDiag] then
        (if s.mc.mode = .recovery then some .notReady else none)
      else if s.mc.mode = .service then none else some .notReady
    (∀ r, refusal = some r → exec i s = .next (s.answered p k tag r .empty)) ∧
    (refusal = none → s.serves p k = true)

/-! ## The tag code and the alerts -/

/-- The tag word of a number is a codeword: its data bits stand at their positions, its syndrome is 0 and its parity
good; it reads back as the number, and so does the word with any one bit misread; with two bits misread it is
UNCORRECTABLE. -/
def Obligations.TagWordSurvivesOneMisread : Prop :=
  ∀ n : TicketNo,
    (∀ k pos, (k, pos) ∈ (List.range 16).zip [3, 5, 6, 7, 9, 10, 11, 12, 13, 14, 15, 17, 18, 19, 20, 21] →
      (encodeTag n).getLsbD pos = n.getLsbD k) ∧
    syndrome (encodeTag n) = 0 ∧ parityGood (encodeTag n) = true ∧ tagClass (encodeTag n) = .clean ∧
    decodeTag (encodeTag n) = some n ∧
    (∀ i, i < 22 → decodeTag (encodeTag n ^^^ BitVec.twoPow 22 i) = some n) ∧
    ∀ i j, i < j → j < 22 → decodeTag (encodeTag n ^^^ BitVec.twoPow 22 i ^^^ BitVec.twoPow 22 j) = none

/-- The five classes of a decode, by syndrome and parity, and the number each takes from the word. -/
def Obligations.TagClasses : Prop :=
  ∀ w : BitVec 22,
    let s := syndrome w
    let good := parityGood w
    let data (w : BitVec 22) : TicketNo :=
      ((List.range 16).zip [3, 5, 6, 7, 9, 10, 11, 12, 13, 14, 15, 17, 18, 19, 20, 21]).foldl
        (fun n (k, pos) => if w.getLsbD pos then n ||| BitVec.twoPow 16 k else n) 0
    s ≤ 31 ∧
    (s = 0 → good = true → tagClass w = .clean ∧ decodeTag w = some (data w)) ∧
    (s = 0 → good = false → tagClass w = .parityBit ∧ decodeTag w = some (data w)) ∧
    (s ∈ [1, 2, 4, 8, 16] → good = false → tagClass w = .checkBit ∧ decodeTag w = some (data w)) ∧
    (3 ≤ s → s ≤ 21 → s ∉ [1, 2, 4, 8, 16] → good = false →
      tagClass w = .dataCorrected ∧ decodeTag w = some (data (w ^^^ BitVec.twoPow 22 s))) ∧
    (22 ≤ s → good = false → tagClass w = .uncorrectable ∧ decodeTag w = none) ∧
    (1 ≤ s → good = true → tagClass w = .uncorrectable ∧ decodeTag w = none)

/-- A raise of an event flag: a clear flag is set with the subject and Count 1, announced to the ports that enable it,
and the lines are evaluated; a set flag takes the subject and counts, with no notice and no change of a line. The
evaluation of a condition flag, row by row of R163. No state but the Alert Unit's changes. -/
def Obligations.AlertFlagsRaisedAndEvaluated : Prop :=
  (∀ (f : AlertFlag) (sub : Subject) (w : Work), f.isCondition = false →
    let u := w.raise f sub
    (∀ g, g ≠ f → u.alert g = w.alert g) ∧ u.au.enables = w.au.enables ∧
    { u.toState with au := w.au } = w.toState ∧
    ((w.alert f).set = false →
      u.alert f = ⟨true, some sub, 1⟩ ∧ u.toState.AttentionLaw ∧
      u.out = w.out ++ [(w.alertPorts f, .alert f sub w.tb.minute)] ∧
      ∀ p : Port, (w.alertPorts f).getLsbD p.val = (w.au.enables.get p).getLsbD f.idx.val) ∧
    ((w.alert f).set = true →
      u.alert f = ⟨true, some sub, min 255 ((w.alert f).count + 1)⟩ ∧ u.au.attention = w.au.attention ∧
      u.out = w.out)) ∧
  ∀ (f : AlertFlag) (holds cause : Bool) (n : TicketNo) (w : Work), f.isCondition = true →
    let u := w.evalCondition f holds n cause
    (∀ g, g ≠ f → u.alert g = w.alert g) ∧ u.au.enables = w.au.enables ∧
    { u.toState with au := w.au } = w.toState ∧
    ((w.alert f).set = false → holds = true →
      u.alert f = ⟨true, some (.ticket n), 1⟩ ∧ u.toState.AttentionLaw ∧
      u.out = w.out ++ [(w.alertPorts f, .alert f (.ticket n) w.tb.minute)]) ∧
    ((w.alert f).set = true → holds = true → cause = true →
      u.alert f = ⟨true, some (.ticket n), min 255 ((w.alert f).count + 1)⟩ ∧ u.au.attention = w.au.attention ∧
      u.out = w.out) ∧
    ((w.alert f).set = true → holds = true → cause = false → u.au = w.au ∧ u.out = w.out) ∧
    ((w.alert f).set = true → holds = false →
      u.alert f = ⟨false, none, 0⟩ ∧ u.toState.AttentionLaw ∧ u.out = w.out) ∧
    ((w.alert f).set = false → holds = false → u.au = w.au ∧ u.out = w.out)

/-! ## Custody -/

/-- The number an ISSUE gives is the first, from the counter on and after 65535 from 1, that no record carries; at most
511 are passed over. ISSUE creates a record under it. With a space found, the space is held and the ticket is INBOUND;
with none, the ticket waits at the tail of the wait queue, with SPACE_WAIT set. A full table refuses it. -/
def Obligations.IssueCreatesATicket : Prop :=
  (∀ ct : CustodyTable, ct.tickets.length < 512 → ct.nextNumber ≠ 0 →
    ct.chooseNumber ≠ 0 ∧ ct.chooseNumber ∉ ct.tickets.map Ticket.number ∧
    ∃ k, k < 512 ∧ ct.chooseNumber = nextNumber^[k] ct.nextNumber ∧
      ∀ j, j < k → nextNumber^[j] ct.nextNumber ∈ ct.tickets.map Ticket.number) ∧
  ∀ (s : State) (p : Port) (tag cc pr dg sec : Byte) (g o : BitVec 16) (c : CarClass) (lv : Level) (given : Bool)
    (sc : Option Section4),
    s.serves p .issue = true → carClass? cc = some c → level? pr = some lv → flag? dg = some given →
    optSection? sec = some sc →
    let n := s.ct.chooseNumber
    let t : Ticket :=
      { number := n, state := .awaitingSpace, formerState := none, carClass := c, priority := lv,
        guestRef := if g = 0 then none else some g,
        departure := if given then some (min (s.tb.minute + min o.toNat 4095) 16777215) else none,
        curbSection := sc.getD (s.mc.ports.get p).defaultSection, issuePort := p, arrival := s.tb.minute,
        space := none, nextSpace := none, key := .noneYet, bay := none, run := none, prestageDone := false }
    let s1 : State := { s with ct := ⟨insertTicket t s.ct.tickets, if n = 0xFFFF then 1 else n + 1⟩ }
    let run := exec (.issue p tag cc pr g dg o sec) s
    (512 ≤ s.ct.tickets.length → run = .next (s.answered p .issue tag .full .empty)) ∧
    (∀ sp, s.ct.tickets.length < 512 → s1.allocate t none = some sp →
      run = .next (State.answered p .issue tag .ok
        (.issue n (encodeTag n) t.departure t.curbSection (some sp) (s.zoneNo? sp))
        { s1 with
          ct := { s1.ct with tickets := insertTicket { t with state := .inbound, space := some sp } s.ct.tickets },
          sa := { s.sa with spaces := s.sa.spaces.set sp (.held n) } })) ∧
    (s.ct.tickets.length < 512 → s1.allocate t none = none →
      ∃ u, run = .next u ∧
        s.Answered u p .issue tag .waiting (.issue n (encodeTag n) t.departure t.curbSection none none) ∧
        u.ct = s1.ct ∧ u.sa = { s.sa with waitQueue := s.sa.waitQueue ++ [n] } ∧ (u.alert .spaceWait).set = true ∧
        s.SameAlertsBut u .spaceWait ∧ u.kci = s.kci ∧ u.da = s.da ∧ u.fc = s.fc ∧ u.tb = s.tb ∧ u.mc = s.mc ∧
        s.SameOuter u)

/-- AMEND changes just the items given: the departure (set, cleared or kept; an item given clears PrestageDone), the
guest reference and the priority. -/
def Obligations.AmendChangesTheItemsGiven : Prop :=
  ∀ (s : State) (p : Port) (tag a gg pr : Byte) (n : TicketNo) (o g : BitVec 16) (d : DepartureItem) (given : Bool)
    (lv : Option Level),
    s.serves p .amend = true → n ≠ 0 → departureItem? a o = some d → flag? gg = some given →
    optLevel? pr = some lv →
    let dep (t : Ticket) : Option Nat :=
      match d with
      | .keep => t.departure
      | .set o => some (min (s.tb.minute + min o.toNat 4095) 16777215)
      | .clear => none
    let amended (t : Ticket) : Ticket :=
      { t with departure := dep t, prestageDone := if d = .keep then t.prestageDone else false,
               guestRef := if given then (if g = 0 then none else some g) else t.guestRef,
               priority := lv.getD t.priority }
    (∀ t, s.ticket? n = some t →
      exec (.amend p tag n a o gg g pr) s =
        .next (State.answered p .amend tag .ok
          (.amend (amended t).departure (amended t).guestRef (amended t).priority (amended t).prestageDone)
          { s with ct := { s.ct with
              tickets := s.ct.tickets.map fun x => if x.number = n then amended x else x } })) ∧
    (s.ticket? n = none → exec (.amend p tag n a o gg g pr) s = .next (s.answered p .amend tag .noTicket .empty))

/-- QUERY_TICKET reports by number the record with what the Dispatch Arbiter holds for it, and by guest reference the
count of all matches with at most 8 of them from the start number on; QUERY_RUNNER reports the roster's record of the
runner and the run that names it, if any. Neither changes anything. -/
def Obligations.QueriesOfTicketsAndRunners : Prop :=
  ∀ (s : State) (p : Port) (tag x : Byte) (n start : BitVec 16),
    (s.serves p .queryTicket = true → n ≠ 0 →
      (s.ticket? n = none →
        exec (.queryTicketByNumber p tag n start) s = .next (s.answered p .queryTicket tag .noTicket .empty)) ∧
      (∀ t, s.ticket? n = some t →
        exec (.queryTicketByNumber p tag n start) s =
          .next (s.answered p .queryTicket tag .ok
            (.ticket t (s.recall? n).isSome ((s.recall? n).map Entry.kind) ((s.recall? n).map Entry.level)
              ((s.recall? n).bind s.blockedReason) ((s.targetRun? n).map fun x => x.2.kind) (s.eta n)))) ∧
      (let found := s.ct.tickets.filter fun t => t.guestRef == some n
       exec (.queryTicketByGuest p tag n start) s =
         .next (if found = [] then s.answered p .queryTicket tag .noTicket .empty
           else s.answered p .queryTicket tag .ok
             (.matches_ found.length
               (((found.filter fun t => start.toNat ≤ t.number.toNat).take 8).map fun t =>
                 ⟨t.number, t.state, t.key, (s.recall? t.number).isSome, s.eta t.number⟩))))) ∧
    (s.takesRequest p = true →
      exec (.queryRunner p tag x) s =
        .next (
          if s.mc.mode = .setup then s.answered p .queryRunner tag .notReady .empty
          else if h : x.toNat < 32 then
            let r : RunnerNo := ⟨x.toNat, h⟩
            s.answered p .queryRunner tag .ok
              (.runner (s.da.runners.get r).duty (s.da.runners.get r).team (s.da.runners.get r).freeStamp
                ((s.run? r).map fun q =>
                  { kind := q.kind, level := q.level, target := q.target, curbSection := q.curbSection, bay := q.bay,
                    stepCount := q.steps.length, currentStep := q.currentStep,
                    stepState := (q.steps[q.currentStep]?).map RunStep.state, committed := q.committed, d := q.d,
                    threshold := q.threshold, elapsed := q.elapsed, overdue := q.overdue, lost := q.lost }))
          else s.answered p .queryRunner tag .badField .empty))

/-- The space the allocator returns: the first tier of zone classes in which some lane offers a place, and in it the
offer of lowest score, then of lowest space number; none when no tier offers any. A lane offers a place when it lies in an
open zone of the tier, is neither shuffled nor excluded, and the place is the deepest from which every position to the
aisle is FREE. The score is 2·Walk of the zone with a charge for each ticket recorded deeper: K when either Departure is
absent, 2·K when the new one is later, else 0. -/
def Obligations.AllocatorFindsTheBestSpace : Prop :=
  ∀ (s : State) (t : Ticket) (excluded : Option SpaceNo),
    let order : List ZoneClass :=
      if t.priority = 0 then
        (if t.carClass = .standard then [.reserved, .standard, .oversize] else [.reserved, .oversize])
      else if t.carClass = .standard then [.standard, .oversize] else [.oversize]
    let place (l : Lane) (p : Nat) : SpaceNo := Fin.ofNat 1024 (l.front.val + p)
    let charge (d : SpaceNo) : Nat :=
      match (match s.spaceRec d with | .held b => some b | .occupied b => some b | _ => none) with
      | none => 0
      | some b =>
        match t.departure, (s.ticket? b).bind Ticket.departure with
        | some new, some old => if old < new then 2 * s.mc.params.k else 0
        | _, _ => s.mc.params.k
    let score (l : Lane) (p : Nat) : Nat :=
      (match s.zoneOf? l.front with | some z => 2 * z.2.walk | none => 0) +
        ((List.range l.depth).map fun q => if p < q then charge (place l q) else 0).sum
    let offers (c : ZoneClass) (l : Lane) (p : Nat) : Prop :=
      l ∈ s.sa.lanes ∧ p < l.depth ∧ (∃ z, s.zoneOf? l.front = some z ∧ z.2.isOpen = true ∧ z.2.cls = c) ∧
        l.shuffle = none ∧ excluded ≠ some l.front ∧ (∀ q, q < p + 1 → s.spaceRec (place l q) = .free) ∧
        (p + 1 = l.depth ∨ s.spaceRec (place l (p + 1)) ≠ .free)
    (s.allocate t excluded = none ↔ ∀ c ∈ order, ∀ l ∈ s.sa.lanes, ∀ p, p < l.depth → ¬ offers c l p) ∧
    ∀ sp, s.allocate t excluded = some sp ↔
      ∃ (i : Nat) (c : ZoneClass), order[i]? = some c ∧
        (∀ (j : Nat), j < i → ∀ d, order[j]? = some d → ∀ l ∈ s.sa.lanes, ∀ p, p < l.depth → ¬ offers d l p) ∧
        ∃ l ∈ s.sa.lanes, ∃ p, p < l.depth ∧ offers c l p ∧ sp = place l p ∧
          ∀ m ∈ s.sa.lanes, ∀ q, q < m.depth → offers c m q →
            score l p < score m q ∨ (score l p = score m q ∧ sp.val ≤ (place m q).val)

/-- A wait-queue pass tries each waiting ticket once, oldest first, each on the state the ones before it left: a
ticket for which the allocator finds a space leaves the queue, holds the space and is INBOUND, and a SPACE notice says
so; one for which it finds none keeps its place. The pass is run at the end of a ZONE_STATE that opens a closed zone
and of a SPACE_SERVICE return; that their response stands before its SPACE notices is assumption 26. -/
def Obligations.WaitQueuePass : Prop :=
  (∀ w : Work, w.sa.waitQueue.Nodup → (∀ n ∈ w.sa.waitQueue, (w.ticket? n).isSome = true) →
    (w.sa.waitQueue ≠ [] → (w.alert .spaceWait).set = true) →
    ∃ ws : List Work, ws[0]? = some w ∧ ws[w.sa.waitQueue.length]? = some w.runPass ∧
      ∀ i n a b, w.sa.waitQueue[i]? = some n → ws[i]? = some a → ws[i + 1]? = some b →
        ∃ t, a.ticket? n = some t ∧
          (a.allocate t none = none → b = a) ∧
          ∀ sp, a.allocate t none = some sp →
            b.ct = { a.ct with tickets := a.ct.tickets.map fun x =>
              if x.number = n then { x with space := some sp, state := .inbound } else x } ∧
            b.sa = { a.sa with spaces := a.sa.spaces.set sp (.held n), waitQueue := a.sa.waitQueue.filter (· != n) } ∧
            ((b.alert .spaceWait).set = true ↔ b.sa.waitQueue ≠ []) ∧ a.toState.SameAlertsBut b.toState .spaceWait ∧
            b.out = a.out ++
              [(a.portsWith .podium ||| a.portsWith .dispatch, .space n .pass .space (some sp) (a.zoneNo? sp))] ∧
            b.kci = a.kci ∧ b.da = a.da ∧ b.fc = a.fc ∧ b.tb = a.tb ∧ b.mc = a.mc ∧ b.slu = a.slu) ∧
  ∀ (s : State) (p : Port) (tag x : Byte) (y : BitVec 16) (z : ZoneNo) (sp : SpaceNo) (r : Zone),
    s.unstaffed = true → zone? x = some z → space? y = some sp →
    let passed (s1 t : State) : Prop :=
      let v := (Work.begin s1).runPass
      t.ct = v.ct ∧ t.sa = v.sa ∧ t.au = v.au ∧ t.kci = s.kci ∧ t.da = s.da ∧ t.fc = s.fc ∧ t.tb = s.tb ∧
        t.mc = s.mc ∧ s.SameOuter t ∧ ∀ m ∈ v.out, t.Told m.1 m.2
    (s.serves p .zoneState = true → s.sa.zones.get z = some r → r.isOpen = false →
      ∃ t, exec (.zoneStateOpen p tag x) s = .next t ∧ s.Answered t p .zoneState tag .ok (.zoneState z true) ∧
        passed { s with sa := { s.sa with zones := s.sa.zones.set z (some { r with isOpen := true }) } } t) ∧
    (s.serves p .spaceService = true → s.spaceRec sp = .outOfService →
      ∃ t, exec (.spaceServiceReturn p tag y) s = .next t ∧ s.Answered t p .spaceService tag .ok .empty ∧
        passed { s with sa := { s.sa with spaces := s.sa.spaces.set sp .free } } t)

/-- The checks of PARKED in their order: a ticket that no record carries, a State that is not on the move, and then the
named space: UNMAPPED, OUT_OF_SERVICE, of a zone not admissible (unless the ticket claims the space), in a shuffled lane,
behind an OCCUPIED or OUT_OF_SERVICE space that the ticket does not claim, OCCUPIED by another ticket. A refusal changes
nothing; a report that passes them all is accepted. -/
def Obligations.ParkedChecks : Prop :=
  ∀ (s : State) (p : Port) (tag : Byte) (n : TicketNo) (x : BitVec 16) (sp : SpaceNo),
    s.serves p .parked = true → n ≠ 0 → space? x = some sp → (∀ l ∈ s.sa.lanes, l.front.val + l.depth ≤ 1024) →
    let refused (r : ResultCode) : Prop := exec (.parked p tag n x) s = .next (s.answered p .parked tag r .empty)
    (s.ticket? n = none → refused .noTicket) ∧
    ∀ t, s.ticket? n = some t →
      let own (y : SpaceNo) : Prop := t.space = some y ∨ t.nextSpace = some y
      let admitted : Prop :=
        ∃ z, s.zoneOf? sp = some z ∧
          ((z.2.cls = .standard ∧ t.carClass = .standard) ∨ z.2.cls = .oversize ∨
            (z.2.cls = .reserved ∧ t.priority = 0))
      let shuffled : Prop := ∃ l, s.laneOf? sp = some l ∧ l.shuffle.isSome = true
      let walledIn : Prop :=
        ∃ l, s.laneOf? sp = some l ∧ ∃ y : SpaceNo, (l.front.val ≤ y.val ∧ y.val < sp.val) ∧ ¬ own y ∧
          ((s.spaceRec y).occupant?.isSome = true ∨ s.spaceRec y = .outOfService)
      let taken : Prop := ∃ m, s.spaceRec sp = .occupied m ∧ m ≠ n
      (t.state ∈ [.parked, .outbound, .staged] → refused .badState) ∧
      (t.state ∈ [.awaitingSpace, .inbound, .returning, .relocating, .unconfirmed] →
        (s.spaceRec sp = .unmapped → refused .badField) ∧
        (s.spaceRec sp = .outOfService → refused .badSpace) ∧
        (s.spaceRec sp ≠ .unmapped → s.spaceRec sp ≠ .outOfService →
          (¬ own sp → ¬ admitted → refused .badSpace) ∧
          (own sp ∨ admitted →
            (shuffled → refused .laneBusy) ∧
            (¬ shuffled →
              (walledIn → refused .badSpace) ∧
              (¬ walledIn →
                (taken → refused .spaceTaken) ∧
                (¬ taken →
                  s.parkedRefusal t sp = none ∧
                  ∃ u, exec (.parked p tag n x) s = .next u ∧
                    ∃ d, s.Answered u p .parked tag .ok (.parked n sp (s.zoneNo? sp) d) ∧
                      ((∀ m, s.spaceRec sp = .held m → m = n) → d = none)))))))

/-- PARKED of a car with its own hold and no run or bay: the named space becomes OCCUPIED, the hold becomes FREE when
it is another space, and the ticket is PARKED. Of a car AWAITING_SPACE: the space becomes OCCUPIED and the ticket
leaves the wait queue. -/
def Obligations.ParkedTakesItsSpace : Prop :=
  ∀ (s : State) (p : Port) (tag : Byte) (n : TicketNo) (x : BitVec 16) (sp : SpaceNo) (t : Ticket),
    s.serves p .parked = true → s.unstaffed = true → n ≠ 0 → space? x = some sp → s.ticket? n = some t →
    t.run = none → t.bay = none → t.nextSpace = none → s.parkedRefusal t sp = none →
    (∀ u, s.spaceRec sp = .held u → u = n) →
    let parked (y : Ticket) : Ticket :=
      { y with space := some sp, nextSpace := none, state := .parked, formerState := none }
    let tickets := s.ct.tickets.map fun y => if y.number = n then parked y else y
    let spaces := s.sa.spaces.set sp (.occupied n)
    (∀ old, t.state ∈ [.inbound, .returning, .unconfirmed] → t.space = some old → s.sa.waitQueue = [] →
      exec (.parked p tag n x) s =
        .next (State.answered p .parked tag .ok (.parked n sp (s.zoneNo? sp) none)
          { s with ct := { s.ct with tickets := tickets },
                   sa := { s.sa with spaces := if old = sp then spaces else spaces.set old .free } })) ∧
    (t.state = .awaitingSpace → t.space = none →
      ∃ u, exec (.parked p tag n x) s = .next u ∧
        s.Answered u p .parked tag .ok (.parked n sp (s.zoneNo? sp) none) ∧
        u.ct = { s.ct with tickets := tickets } ∧
        u.sa = { s.sa with spaces := spaces, waitQueue := s.sa.waitQueue.filter fun m => m != n } ∧
        s.SameAlertsBut u .spaceWait ∧ u.kci = s.kci ∧ u.da = s.da ∧ u.fc = s.fc ∧ u.tb = s.tb ∧ u.mc = s.mc ∧
        s.SameOuter u)

/-- PARKED in a space held for another ticket, named in its Space or its NextSpace: the reporting car has the space, and
the claim moves to the space the allocator finds for its ticket once the report's own changes are made (for a NextSpace,
with the lane of that ticket's Space excluded), with a SPACE notice. With none found the claim is dropped, by what the
ticket is: INBOUND or RETURNING, it becomes AWAITING_SPACE at the tail of the wait queue; UNCONFIRMED, its field stays
absent; a blocker, its NextSpace stays absent and a STEP notice says so. -/
def Obligations.ParkedMovesAnothersHold : Prop :=
  ∀ (s : State) (p : Port) (tag : Byte) (n u : TicketNo) (x : BitVec 16) (sp old : SpaceNo) (t v : Ticket)
    (f : ClaimField),
    s.serves p .parked = true → s.unstaffed = true → s.sa.waitQueue = [] → n ≠ 0 → space? x = some sp →
    s.ticket? n = some t → t.state = .inbound → t.run = none → t.bay = none → t.nextSpace = none →
    t.space = some old → old ≠ sp → s.parkedRefusal t sp = none →
    u ≠ n → s.spaceRec sp = .held u → s.ticket? u = some v →
    ((f = .space ∧ v.space = some sp) ∨ (f = .nextSpace ∧ v.space ≠ some sp ∧ v.nextSpace = some sp)) →
    let claims (o : Option SpaceNo) (z : Ticket) : Ticket :=
      if z.number = u then (if f = .space then { z with space := o } else { z with nextSpace := o }) else z
    let parked (z : Ticket) : Ticket :=
      if z.number = n then { z with space := some sp, nextSpace := none, state := .parked, formerState := none } else z
    let s1 : State :=
      { s with
        ct := { s.ct with tickets := (s.ct.tickets.map (claims none)).map parked },
        sa := { s.sa with spaces := (s.sa.spaces.set sp (.occupied n)).set old .free } }
    let excluded : Option SpaceNo := if f = .space then none else v.space.bind s.laneFront?
    let found := s1.allocate v excluded
    let ports := s.portsWith .podium ||| s.portsWith .dispatch
    ∃ r, exec (.parked p tag n x) s = .next r ∧
      s.Answered r p .parked tag .ok (.parked n sp (s.zoneNo? sp) (some u)) ∧
      (∀ y, found = some y →
        r.ct = { s1.ct with tickets := s1.ct.tickets.map (claims (some y)) } ∧
        r.sa = { s1.sa with spaces := s1.sa.spaces.set y (.held u) } ∧ r.au = s.au ∧
        r.Told ports (.space u .displaced f (some y) (s.zoneNo? y))) ∧
      (found = none → f = .space → v.state = .inbound ∨ v.state = .returning →
        r.ct = { s1.ct with tickets := s1.ct.tickets.map fun z =>
          if z.number = u then { z with state := .awaitingSpace } else z } ∧
        r.sa = { s1.sa with waitQueue := [u] } ∧ (r.alert .spaceWait).set = true ∧ s.SameAlertsBut r .spaceWait ∧
        r.Told ports (.space u .dropped .space none none)) ∧
      (found = none → v.state = .unconfirmed →
        r.ct = s1.ct ∧ r.sa = s1.sa ∧ r.au = s.au ∧ r.Told ports (.space u .dropped f none none)) ∧
      (found = none → v.state = .parked ∨ v.state = .relocating →
        r.ct = s1.ct ∧ r.sa = s1.sa ∧ r.au = s.au ∧
        ∀ m q i st, v.run = some m → s.run? m = some q → q.steps[i]? = some st → st.ticket = u → st.role = .blocker →
          (∀ j y, j < i → q.steps[j]? = some y → y.ticket ≠ u) →
          r.Told (s.portsWith .dispatch)
            (.step m q.target i u st.state st.hook (if f = .space then v.nextSpace.map .space else none) st.withheld
              q.committed false .dropped)) ∧
      r.kci = s.kci ∧ r.da = s.da ∧ r.fc = s.fc ∧ r.tb = s.tb ∧ r.mc = s.mc ∧ s.SameOuter r

/-- PARKED that ends a step of a run. A CARRIED blocker is DONE and keeps its Run; the next step is current, its key
released when the ticket's hook is HOLDING it, and otherwise withheld, CARRY for an open carry and KEY_ABSENT else. A
RETURN target's report completes the run and frees its runner. The bay such a ticket, or an UNCONFIRMED one with no
run, left or was bound for is settled: a CLEARING bay it occupied passes to the target waiting for it or is EMPTY, one
INCOMING for it is EMPTY, any other stays.That the STEP notice of the blocker carries no To at DONE, where its
NextSpace is absent, is the model's reading of R122 and R139 (assumption 17). -/
def Obligations.ParkedEndsAStep : Prop :=
  ∀ (s : State) (p : Port) (tag : Byte) (n : TicketNo) (x : BitVec 16) (sp : SpaceNo) (t : Ticket),
    s.serves p .parked = true → n ≠ 0 → space? x = some sp → s.ticket? n = some t → s.parkedRefusal t sp = none →
    (∀ u, s.spaceRec sp = .held u → u = n) → (∀ m ∈ s.sa.waitQueue, m = n) →
    let freed (o : Option SpaceNo) (y : Table 1024 SpaceRec) : Table 1024 SpaceRec :=
      match o with
      | some old => if old = sp then y else y.set old .free
      | none => y
    let spaces := freed t.nextSpace (freed t.space (s.sa.spaces.set sp (.occupied n)))
    let car : Ticket := { t with space := some sp, nextSpace := none, state := .parked, formerState := none }
    let answer (u : State) : Prop := s.Answered u p .parked tag .ok (.parked n sp (s.zoneNo? sp) none)
    (∀ r q st nx y, s.unstaffed = true → t.state = .relocating → t.bay = none → t.run = some r → s.run? r = some q →
      q.kind ≠ .return_ →
      q.steps[q.currentStep]? = some st → st.ticket = n → st.role = .blocker → st.state = .carried →
      q.steps[q.currentStep + 1]? = some nx → nx.ticket ≠ n → s.ticket? nx.ticket = some y →
      (nx.role = .target ∨ y.nextSpace.isSome = true) →
      let goesOn (u : State) (z : RunStep) : Prop :=
        u.run? r = some
          { q with currentStep := q.currentStep + 1,
                   steps := (q.steps.set q.currentStep { st with state := .done }).set (q.currentStep + 1) z } ∧
        u.Told (s.portsWith .dispatch)
          (.step r q.target (q.currentStep + 1) z.ticket z.state z.hook
            (if nx.role = .target then q.bay.map .bay else y.nextSpace.map .space) z.withheld q.committed false .next)
      let withheld (w : Withheld) : RunStep := { nx with state := .lapsed, withheld := some w }
      ∃ u, exec (.parked p tag n x) s = .next u ∧ answer u ∧ u.ticket? n = some car ∧
        (∀ m, m ≠ n → u.ticket? m = s.ticket? m) ∧ u.sa = { s.sa with spaces := spaces, waitQueue := [] } ∧
        (∀ h, y.key = .onHook h → (s.hook h).occ = .holding nx.ticket →
          goesOn u { nx with state := .released, hook := some h, withheld := none } ∧
          u.hook h = { s.hook h with occ := .released nx.ticket, windowLeft := s.mc.params.window } ∧
          ∀ g, g ≠ h → u.hook g = s.hook g) ∧
        (∀ h, y.key = .onHook h → (s.hook h).occ.isCarry = true → goesOn u (withheld .carry) ∧ u.kci = s.kci) ∧
        ((∀ h, y.key ≠ .onHook h) → goesOn u (withheld .keyAbsent) ∧ u.kci = s.kci) ∧
        u.Told (s.portsWith .dispatch)
          (.step r q.target q.currentStep n .done st.hook none st.withheld q.committed false .parked) ∧
        (∀ m, m ≠ r → u.run? m = s.run? m) ∧ u.da.runners = s.da.runners ∧ u.da.queue = s.da.queue ∧ u.fc = s.fc ∧
        u.tb = s.tb ∧ u.mc = s.mc ∧ s.SameOuter u) ∧
    (∀ r q st, s.da.queue = [] → t.state ∈ [.returning, .awaitingSpace, .inbound] → t.run = some r →
      s.run? r = some q → q.kind = .return_ → q.currentStep = 0 → q.steps = [st] → st.ticket = n → st.role = .target →
      st.state = .carried →
      ∃ u, exec (.parked p tag n x) s = .next u ∧ answer u ∧
        u.ticket? n = some { car with run := none, bay := none } ∧ (∀ m, m ≠ n → u.ticket? m = s.ticket? m) ∧
        u.sa = { s.sa with spaces := spaces, waitQueue := [] } ∧
        u.da = { s.da with
          runs := s.da.runs.set r none, seq := min (s.da.seq + 1) 4294967295,
          runners := s.da.runners.set r { s.da.runners.get r with duty := .free, freeStamp := s.da.seq } } ∧
        u.Told (s.portsWith .dispatch)
          (.step r q.target 0 n .done st.hook (some (.space sp)) st.withheld q.committed true .parked) ∧
        u.kci = s.kci ∧ u.tb = s.tb ∧ u.mc = s.mc ∧ s.SameOuter u) ∧
    ∀ b, t.bay = some b → s.da.queue = [] →
      (t.state = .unconfirmed ∧ t.run = none) ∨
        (∃ r q st, t.run = some r ∧ s.run? r = some q ∧ q.kind = .return_ ∧ q.currentStep = 0 ∧ q.steps = [st] ∧
          st.ticket = n ∧ st.role = .target ∧ st.state = .carried ∧ t.state ∈ [.returning, .awaitingSpace, .inbound]) →
      ∃ u, exec (.parked p tag n x) s = .next u ∧ answer u ∧ (u.ticket? n).map Ticket.bay = some none ∧
        (∀ c, c ≠ b → u.bay c = s.bay c) ∧ u.fc.marker = s.fc.marker ∧
        ((s.bay b).condition = .clearing → (s.bay b).occupant = some n →
          (∀ y, (s.bay b).incoming = some y → u.bay b = ⟨.incoming, none, some y, false, false, false⟩) ∧
          ((s.bay b).incoming = none → u.bay b = ⟨.empty, none, none, false, false, false⟩)) ∧
        ((s.bay b).condition = .incoming → (s.bay b).incoming = some n →
          u.bay b = ⟨.empty, none, none, false, false, false⟩) ∧
        (((s.bay b).condition = .clearing → (s.bay b).occupant ≠ some n) →
          ((s.bay b).condition = .incoming → (s.bay b).incoming ≠ some n) → u.bay b = s.bay b)

/-! ## Recalls, runs and runners -/

/-- RECALL of a ticket with no entry and no run, by number and by the guest reference of that one ticket: an entry is
created with the lower of the port's and the ticket's Level and the counter's value as Stamp, and takes its place in
queue order. RECALL of a ticket already recalled merges into the RETRIEVE or PRESTAGE entry or run, which becomes
RETRIEVE at the lower Level and is to notify the port as well; of a STAGED ticket, it marks the bay GuestCalled and
sends READY. A pending RETURN entry of that ticket is removed, and its ports are told READY too; a bay CLEARING with
it is OCCUPIED again and called, and the target waiting for that bay goes to the other bay of the section: an EMPTY
one is INCOMING for it, an evictable one is evicted for it at its run's Level, and with any other its reservation is
lost. No runner is FREE or ASSIGNED, so no run is granted. -/
def Obligations.RecallCreatesMergesOrAnswersReady : Prop :=
  ∀ (s : State) (p : Port) (tag sec : Byte) (n g : BitVec 16) (c : Option Section4) (t : Ticket),
    s.serves p .recall = true → s.unstaffed = true → n ≠ 0 → optSection? sec = some c → s.ticket? n = some t →
    let port := s.mc.ports.get p
    let lv := if port.baseLevel.val ≤ t.priority.val then port.baseLevel else t.priority
    let lower (a : Level) : Level := if a.val ≤ lv.val then a else lv
    (t.state ≠ .staged → t.run = none → s.recall? n = none →
      let e : Entry :=
        { ticket := n, kind := .retrieve, level := lv, curbSection := c.getD port.defaultSection, stamp := s.da.seq,
          notify := BitVec.twoPow 4 p.val }
      let s1 : State :=
        { s with da := { s.da with queue := insertEntry e s.da.queue, seq := min (s.da.seq + 1) 4294967295 } }
      exec (.recallByNumber p tag n sec) s =
        .next (s1.answered p .recall tag .ok (.recall n (some e.level) (some .retrieve) (s1.eta n))) ∧
      (g ≠ 0 → s.guestTickets g = [t] →
        exec (.recallByGuest p tag g sec) s =
          .next (s1.answered p .recall tag .ok (.recallGuest 1 1 0 (s1.eta n))))) ∧
    (∀ e, t.state ≠ .staged → s.recall? n = some e → e.kind ≠ .return_ →
      let e' : Entry :=
        { e with level := lower e.level, kind := .retrieve, curbSection := c.getD e.curbSection,
                 notify := e.notify ||| BitVec.twoPow 4 p.val }
      let s1 : State :=
        { s with da := { s.da with queue := insertEntry e' (s.da.queue.filter fun x => x.ticket != n) } }
      exec (.recallByNumber p tag n sec) s =
        .next (s1.answered p .recall tag .merged (.recall n (some (lower e.level)) (some .retrieve) (s1.eta n)))) ∧
    (∀ r q, t.state ≠ .staged → s.recall? n = none → s.targetRun? n = some (r, q) → q.kind ≠ .return_ →
      let s1 : State :=
        { s with da := { s.da with runs := s.da.runs.set r (some
          { q with kind := .retrieve, level := lower q.level, notify := q.notify ||| BitVec.twoPow 4 p.val }) } }
      exec (.recallByNumber p tag n sec) s =
        .next (s1.answered p .recall tag .merged (.recall n (some (lower q.level)) (some .retrieve) (s1.eta n)))) ∧
    (∀ b, t.state = .staged → t.run = none → s.recall? n = none → t.bay = some b → (s.bay b).condition = .occupied →
      exec (.recallByNumber p tag n sec) s =
        .next (State.deliver
          (State.answered p .recall tag .ready (.recall n none none 0)
            { s with fc := { s.fc with bays := s.fc.bays.set b { s.bay b with guestCalled := true } } })
          (s.portsWith .podium ||| BitVec.twoPow 4 p.val, .ready n b true .recalled))) ∧
    (∀ e b, t.state = .staged → t.run = none → s.recall? n = some e → e.kind = .return_ → t.bay = some b →
      let k := s.bay b
      let rest := s.da.queue.filter fun x => x.ticket != n
      let ready (s1 : State) : Prop :=
        exec (.recallByNumber p tag n sec) s =
          .next (State.deliver (s1.answered p .recall tag .ready (.recall n none none 0))
            (s.portsWith .podium ||| BitVec.twoPow 4 p.val ||| e.notify, .ready n b true .recalled))
      let stays (k' : Bay) : State :=
        { s with fc := { s.fc with bays := s.fc.bays.set b k' }, da := { s.da with queue := rest } }
      let called : Bay :=
        { k with condition := .occupied, incoming := none, guestCalled := true, entryMade := false }
      (k.condition = .occupied → ready (stays { k with guestCalled := true })) ∧
      (∀ x r q o, k.condition = .clearing → k.occupant = some n → k.incoming = some x →
        s.targetRun? x = some (r, q) → o ≠ b → o.val / 2 = b.val / 2 →
        let other := s.bay o
        let goes (made : Bool) (c : BayCondition) (da : DispatchArbiter) : State :=
          { s with
            fc := { s.fc with
              bays := (s.fc.bays.set b called).set o
                { other with condition := c, incoming := some x, entryMade := made },
              marker := s.fc.marker.set (baySection b) (bayIndex b) },
            ct := { s.ct with tickets := s.ct.tickets.map fun y =>
              if y.number = x then { y with bay := some o } else y },
            da := { da with runs := s.da.runs.set r (some { q with bay := some o }) } }
        (other.condition = .empty → ready (goes other.entryMade .incoming { s.da with queue := rest })) ∧
        (∀ y, other.evictable = true → other.occupant = some y → y ≠ n →
          (s.recall? y = none →
            ready (goes true .clearing { s.da with
              queue := insertEntry ⟨y, .return_, q.level, baySection b, s.da.seq, 0⟩ rest,
              seq := min (s.da.seq + 1) 4294967295 })) ∧
          (∀ f, s.recall? y = some f → f.kind = .return_ →
            ready (goes false .clearing { s.da with
              queue := insertEntry { f with level := if f.level.val ≤ q.level.val then f.level else q.level }
                (rest.filter fun z => z.ticket != y) }))) ∧
        (other.condition ≠ .empty → other.evictable = false → ready (stays called))))

/-- The first condition an entry fails, in the order of R111 and R112, with its BlockedReason; none when it fails no
condition. The chained trial finds a space for each ticket in front of the target, front first, each on a map that
counts the spaces found before it as held. -/
def Obligations.EligibilityOfAnEntry : Prop :=
  ∀ (s : State) (e : Entry) (t : Ticket), s.ticket? e.ticket = some t →
    let reason := s.blockedReason e
    (s.da.mask.getLsbD e.level.val = false → reason = some .masked) ∧
    (s.da.mask.getLsbD e.level.val = true → e.kind = .return_ →
      let ready : Prop := t.state = .staged ∧ ∀ b, t.bay = some b → (s.bay b).guestCalled = false
      (¬ ready → reason = some .notParked) ∧
      (ready → s.allocate t none = none → reason = some .noRoom) ∧
      (ready → (s.allocate t none).isSome = true → reason = none)) ∧
    ∀ sp, s.da.mask.getLsbD e.level.val = true → e.kind ≠ .return_ → t.space = some sp →
      let ready : Prop := t.state = .parked ∧ t.run = none
      let keyed : Prop := ∃ h, t.key = .onHook h ∧ ∃ m, (s.hook h).occ = .holding m
      let shuffled : Prop := ∃ l, s.laneOf? sp = some l ∧ l.shuffle.isSome = true
      let ahead : List TicketNo :=
        (s.inFront sp).filterMap fun y => match s.spaceRec y with | .occupied m => some m | _ => none
      let movable (m : TicketNo) : Prop :=
        ∃ v, s.ticket? m = some v ∧ v.state = .parked ∧ v.run = none ∧ ∃ h, v.key = .onHook h
      let heldFor (xs : List (TicketNo × SpaceNo)) : State :=
        { s with sa := { s.sa with spaces := xs.foldl (fun a y => a.set y.2 (.held y.1)) s.sa.spaces } }
      let room : Prop :=
        ∃ ys : List SpaceNo, ys.length = ahead.length ∧
          ∀ i m y v, ahead[i]? = some m → ys[i]? = some y → s.ticket? m = some v →
            (heldFor ((ahead.zip ys).take i)).allocate v (s.laneFront? sp) = some y
      let bay : Prop :=
        ∃ b : BayNo, b.val / 2 = e.curbSection.val ∧
          ((s.bay b).condition = .empty ∨
            (e.kind = .retrieve ∧ (s.bay b).condition = .occupied ∧ (s.bay b).guestCalled = false ∧
              (s.bay b).locked = false))
      (¬ ready → reason = some .notParked) ∧
      (ready → ¬ keyed → reason = some .keyAbsent) ∧
      (ready → keyed → shuffled → reason = some .laneBusy) ∧
      (ready → keyed → ¬ shuffled → (¬ ∀ m ∈ ahead, movable m) → reason = some .blocker) ∧
      (ready → keyed → ¬ shuffled → (∀ m ∈ ahead, movable m) →
        (¬ room → reason = some .noRoom) ∧ (room → ¬ bay → reason = some .noBay) ∧ (room → bay → reason = none))

/-- The ETA of a ticket by the first of the five cases of R119 that fits it, with D of R118: 2·Walk of the zone of the
space (40 for Walk when there is none), and K for each OCCUPIED space in front for a RETRIEVE or PRESTAGE entry. -/
def Obligations.EtaOfATicket : Prop :=
  ∀ (s : State) (n : TicketNo), s.EntryLaw →
    let walk2 (sp : Option SpaceNo) : Nat :=
      match sp.bind s.zoneOf? with | some z => 2 * z.2.walk | none => 80
    let inTheWay (sp : SpaceNo) : Nat := ((s.inFront sp).filter fun y => (s.spaceRec y).occupant?.isSome).length
    let d (e : Entry) : Nat :=
      match s.ticket? e.ticket with
      | some t =>
        if e.kind = .return_ then walk2 (s.allocate t none)
        else walk2 t.space + (match t.space with | some sp => inTheWay sp * s.mc.params.k | none => 0)
      | none => 80
    let ahead (e f : Entry) : Bool :=
      f.level.val < e.level.val ||
        (f.level == e.level && (f.stamp < e.stamp || (f.stamp == e.stamp && f.ticket.toNat < e.ticket.toNat)))
    let onDuty := (s.da.runners.list.filter fun r => r.duty != .off).length
    let left (q : Run) : Nat := q.d - q.elapsed
    let staged : Prop := ∃ t, s.ticket? n = some t ∧ t.state = .staged
    (staged → s.eta n = 0) ∧
    (∀ e, ¬ staged → s.recall? n = some e →
      let work : Nat :=
        ((List.finRange 32).map fun r => match s.run? r with | some q => left q | none => 0).sum +
          ((s.da.queue.filter (ahead e)).map d).sum
      (onDuty = 0 → s.eta n = 255) ∧
      (0 < onDuty → ∃ k, s.eta n = min (k + d e) 254 ∧ work ≤ k * onDuty ∧ ∀ j, work ≤ j * onDuty → k ≤ j)) ∧
    (∀ r q, ¬ staged → s.recall? n = none → s.targetRun? n = some (r, q) → s.eta n = min (left q) 254) ∧
    (¬ staged → s.recall? n = none → s.targetRun? n = none → s.eta n = 255)

/-- One turn of an arbitration: the first entry in queue order not yet considered is taken. An ineligible one is passed
over. An eligible one is granted to the FREE runner of the preferred team of its target space, if that team has one, and
else of any team, that has waited longest, ties to the lowest. With no runner FREE, the ASSIGNED run of greater Level,
the greatest Level first, then the latest grant, then the highest runner, is aborted, its entry returns with the Stamp it
had, and the entry is granted to its runner; with no such run, or no entry left, the arbitration ends. DISPATCH_MASK
shows it whole: an arbitration is followed by a pass and another one while it makes preemptions (the bounds on turns and
rounds are assumption 7). -/
def Obligations.ArbitrationTurn : Prop :=
  (∀ (k : Nat) (w : Work),
    ((∀ e ∈ w.da.queue, e.ticket ∈ w.considered) → arbitrateTurns (k + 1) w = w) ∧
    ∀ i e t, w.da.queue[i]? = some e → e.ticket ∉ w.considered →
      (∀ (j : Nat) f, j < i → w.da.queue[j]? = some f → f.ticket ∈ w.considered) → w.ticket? e.ticket = some t →
      let w1 : Work := { w with considered := e.ticket :: w.considered }
      let free (r : RunnerNo) : Prop := (w.da.runners.get r).duty = .free
      let target : Option SpaceNo := if e.kind = .return_ then w.allocate t none else t.space
      let preferred : Option Team :=
        target.bind fun sp => (w.zoneOf? sp).bind fun z =>
          z.2.teams.get (Fin.ofNat 4 ((sp.val - z.2.base) / (z.2.size / 4)))
      let fits (r : RunnerNo) : Prop :=
        free r ∧ ∀ tm, preferred = some tm → (∃ x, free x ∧ (w.da.runners.get x).team = tm) →
          (w.da.runners.get r).team = tm
      let stamp (r : RunnerNo) : Nat := (w.da.runners.get r).freeStamp
      let exposed (r : RunnerNo) (q : Run) : Prop :=
        w.run? r = some q ∧ (w.da.runners.get r).duty = .assigned ∧ e.level.val < q.level.val
      let yields (r : RunnerNo) (q : Run) (x : RunnerNo) (y : Run) : Prop :=
        y.level.val < q.level.val ∨ (y.level = q.level ∧ (y.grantStamp < q.grantStamp ∨
          (y.grantStamp = q.grantStamp ∧ x.val ≤ r.val)))
      ((w.blockedReason e).isSome = true → arbitrateTurns (k + 1) w = arbitrateTurns k w1) ∧
      (w.blockedReason e = none →
        (∀ r, fits r → (∀ x, fits x → stamp r < stamp x ∨ (stamp r = stamp x ∧ r.val ≤ x.val)) →
          arbitrateTurns (k + 1) w = arbitrateTurns k (w1.grant e r false)) ∧
        (∀ r q, (∀ x, ¬ free x) → exposed r q → (∀ x y, w.run? x = some y → exposed x y → yields r q x y) →
          w.recall? q.target = none →
          let a := w1.abortRun r .preempted true
          let back : Entry := ⟨q.target, q.kind, q.level, q.curbSection, q.stamp, q.notify⟩
          let b : Work :=
            { a with da := { a.da with queue := insertEntry back a.da.queue }, arbDue := true,
                     considered := a.considered.filter (· != q.target) }
          arbitrateTurns (k + 1) w = arbitrateTurns k { b.grant e r true with preempted := true }) ∧
        ((∀ x, ¬ free x) → (∀ r q, w.run? r = some q → ¬ exposed r q) → arbitrateTurns (k + 1) w = w1))) ∧
  ∀ (s : State) (p : Port) (tag m : Byte), s.serves p .dispatchMask = true →
    let turns (w : Work) : Work :=
      arbitrateTurns (w.da.queue.length + 1024) { w with considered := [], preempted := false }
    let same (u : State) (w : Work) : Prop :=
      u.ct = w.ct ∧ u.sa = w.sa ∧ u.kci = w.kci ∧ u.da = w.da ∧ u.fc = w.fc ∧ u.au = w.au ∧ u.tb = w.tb ∧ u.mc = w.mc ∧
        s.SameOuter u ∧ ∀ x ∈ w.out, u.Told x.1 x.2
    let first := turns (Work.begin { s with da := { s.da with mask := m } })
    let second := turns { first.runPass with arbDue := false }
    ∃ u, exec (.dispatchMask p tag m) s = .next u ∧ s.Answered u p .dispatchMask tag .ok (.mask m) ∧
      (first.preempted = false → same u first) ∧ (first.preempted = true → second.preempted = false → same u second)

/-- A RETRIEVE or PRESTAGE run granted for a car with nothing in front of it and its key on its hook: everything it
writes. The entry leaves the queue, the run is recorded, the runner is ASSIGNED, the lane is shuffled, the key is
released with UNLATCH for its slot, and the RUN notice goes to the DISPATCH ports. The bay is the marker's when it is
EMPTY, else the other when that is; for a RETRIEVE, else the marker's or the other when evictable. An EMPTY bay becomes
INCOMING. An evicted one becomes CLEARING and a RETURN entry is asked for its occupant: created at the run's Level with a
new Stamp and EntryMade set, or an existing one merged at the lower Level. The section's marker names the other bay. -/
def Obligations.GrantStartsARun : Prop :=
  ∀ (w : Work) (e : Entry) (r : RunnerNo) (t : Ticket) (sp : SpaceNo) (h : HookNo) (b : BayNo) (preempting : Bool),
    e.kind ≠ .return_ → w.ticket? e.ticket = some t → t.space = some sp → w.toState.SubstLaw →
    (∀ x ∈ w.inFront sp, w.spaceRec x = .free) → t.key = .onHook h → (w.hook h).occ = .holding e.ticket →
    (w.hook h).openForRemoval = false → b.val / 2 = e.curbSection.val →
    let lru : BayNo := ⟨2 * e.curbSection.val + (w.fc.marker.get e.curbSection).val, by omega⟩
    let isEmpty (x : BayNo) : Prop := (w.bay x).condition = .empty
    let evictable (x : BayNo) : Prop :=
      (w.bay x).condition = .occupied ∧ (w.bay x).guestCalled = false ∧ (w.bay x).locked = false
    (isEmpty b ∧ (isEmpty lru → b = lru)) ∨
      (e.kind = .retrieve ∧ evictable b ∧ (∀ x : BayNo, x.val / 2 = e.curbSection.val → ¬ isEmpty x) ∧
        (evictable lru → b = lru)) →
    let u := w.grant e r preempting
    let d := (match w.zoneOf? sp with | some z => 2 * z.2.walk | none => 80)
    let thr := min (d + w.mc.params.s) 254
    let next (x : Nat) : Nat := min (x + 1) 4294967295
    let others := w.da.queue.filter (fun x => x.ticket != e.ticket)
    let named (x : Ticket) : Ticket := if x.number = e.ticket then { x with bay := some b, run := some r } else x
    let marked (l : Lane) : Lane := if w.laneFront? sp = some l.front then { l with shuffle := some r } else l
    let slot := w.hookSlot h
    u.run? r = some
      { kind := e.kind, level := e.level, stamp := e.stamp, grantStamp := w.da.seq, target := e.ticket,
        curbSection := e.curbSection, bay := some b,
        steps := [⟨e.ticket, .target, some (.space sp), some h, .released, none⟩], currentStep := 0,
        committed := false, d := d, threshold := thr, elapsed := 0, overdue := false, lost := false,
        notify := e.notify } ∧
    (∀ q, q ≠ r → u.run? q = w.run? q) ∧ u.da.mask = w.da.mask ∧
    u.da.runners = w.da.runners.set r { w.da.runners.get r with duty := .assigned } ∧
    u.ct = { w.ct with tickets := w.ct.tickets.map named } ∧ u.sa = { w.sa with lanes := w.sa.lanes.map marked } ∧
    (isEmpty b → u.da.queue = others ∧ u.da.seq = next w.da.seq ∧
      u.fc.bays = w.fc.bays.set b { w.bay b with condition := .incoming, incoming := some e.ticket }) ∧
    (∀ y, ¬ isEmpty b → (w.bay b).occupant = some y → y ≠ e.ticket →
      (w.recall? y = none →
        u.da.queue = insertEntry ⟨y, .return_, e.level, e.curbSection, next w.da.seq, 0⟩ others ∧
        u.da.seq = next (next w.da.seq) ∧ y ∉ u.considered ∧ u.arbDue = true ∧
        u.fc.bays = w.fc.bays.set b
          { w.bay b with condition := .clearing, incoming := some e.ticket, entryMade := true }) ∧
      (∀ f, w.recall? y = some f → f.kind = .return_ →
        u.da.queue = insertEntry { f with level := if f.level.val ≤ e.level.val then f.level else e.level }
          (others.filter fun x => x.ticket != f.ticket) ∧
        u.da.seq = next w.da.seq ∧
        u.fc.bays = w.fc.bays.set b
          { w.bay b with condition := .clearing, incoming := some e.ticket, entryMade := false })) ∧
    u.fc.marker = w.fc.marker.set e.curbSection (if b.val % 2 = 0 then 1 else 0) ∧
    u.kci.hooks = w.kci.hooks.set h
      { w.hook h with occ := .released e.ticket, windowLeft := w.mc.params.window } ∧
    u.kci.latched = w.kci.latched.set (slotIdx slot) false ∧
    (w.kci.latched.get (slotIdx slot) = true →
      u.kci.commands = (w.kci.commands.filter fun c => c.slot? != some slot) ++ [.unlatch slot]) ∧
    u.kci.subst = w.kci.subst ∧ u.kci.latch = w.kci.latch ∧ u.mc = w.mc ∧ u.tb = w.tb ∧ u.au = w.au ∧
    u.out = w.out ++ [(w.portsWith .dispatch,
      .run r (w.da.runners.get r).team e.kind e.level e.ticket e.curbSection (some b) false d thr preempting
        [⟨e.ticket, .target, some (.space sp), some (.bay b)⟩] (some .released) (some h) none)]

/-- The grant of a RETRIEVE or PRESTAGE run for an eligible entry whatever stands in front of its car. The lane is
shuffled; the tickets of the OCCUPIED spaces in front are the blockers, front first, each step From the space it stands
in, the TARGET step last; step 0 is current, its key released or withheld, the others WAITING; D is 2·Walk and K for each
blocker; every step's ticket has its Run set and stays PARKED. A space in front that is HELD is given up for the one the
allocator finds with the lane excluded, with a SPACE notice, or stays held when none is found; the foremost one's
outcome is stated by the allocator. A blocker's NextSpace is a space held for it outside the lane, or absent; with no
hold in front, each blocker has the space of the chained trial and no other space changes. -/
def Obligations.GrantInAShuffledLane : Prop :=
  ∀ (w : Work) (e : Entry) (r : RunnerNo) (t : Ticket) (sp : SpaceNo) (l : Lane) (preempting : Bool),
    e.kind ≠ .return_ → w.powered = true → w.ticket? e.ticket = some t → t.space = some sp → w.laneOf? sp = some l →
    w.toState.TicketLaw → w.toState.CustodyLaw → w.toState.ZoneLaw → w.blockedReason e = none →
    let u := w.grant e r preempting
    let front := w.inFront sp
    let ahead : List (SpaceNo × TicketNo) :=
      front.filterMap fun y => match w.spaceRec y with | .occupied m => some (y, m) | _ => none
    let outside (y : SpaceNo) : Prop := y.val < l.front.val ∨ l.front.val + l.depth ≤ y.val
    let d := (match w.zoneOf? sp with | some z => 2 * z.2.walk | none => 80) + ahead.length * w.mc.params.k
    let ports := w.portsWith .podium ||| w.portsWith .dispatch
    let heldFor (zs : List ((SpaceNo × TicketNo) × SpaceNo)) : Table 1024 SpaceRec :=
      zs.foldl (fun a c => a.set c.2 (.held c.1.2)) w.sa.spaces
    let moved (x y : SpaceNo) (v : TicketNo) (f : ClaimField) : Prop :=
      u.spaceRec x = .free ∧ u.spaceRec y = .held v ∧ outside y ∧ (u.ticket? v).bind f.read = some y ∧
        (ports, .space v .displaced f (some y) (w.zoneNo? y)) ∈ u.out
    (∃ q, u.run? r = some q ∧ q.kind = e.kind ∧ q.level = e.level ∧ q.stamp = e.stamp ∧ q.grantStamp = w.da.seq ∧
      q.target = e.ticket ∧ q.curbSection = e.curbSection ∧ q.currentStep = 0 ∧ q.committed = false ∧ q.d = d ∧
      q.threshold = min (d + w.mc.params.s) 254 ∧ q.elapsed = 0 ∧ q.overdue = false ∧ q.lost = false ∧
      q.notify = e.notify ∧ q.steps.length = ahead.length + 1 ∧
      (∃ b : BayNo, q.bay = some b ∧ b.val / 2 = e.curbSection.val ∧ (u.ticket? e.ticket).map Ticket.bay = some q.bay) ∧
      (∀ i y m, ahead[i]? = some (y, m) → ∃ st, q.steps[i]? = some st ∧ st.ticket = m ∧ st.role = .blocker ∧
        st.origin = some (.space y) ∧ (0 < i → st.state = .waiting ∧ st.hook = none ∧ st.withheld = none)) ∧
      (∃ st, q.steps[ahead.length]? = some st ∧ st.ticket = e.ticket ∧ st.role = .target ∧
        st.origin = some (.space sp) ∧ (0 < ahead.length → st.state = .waiting ∧ st.hook = none ∧ st.withheld = none)) ∧
      ∃ st z h, q.steps[0]? = some st ∧ w.ticket? st.ticket = some z ∧ z.key = .onHook h ∧
        ((w.hook h).occ = .holding st.ticket →
          st.state = .released ∧ st.hook = some h ∧ (u.hook h).occ = .released st.ticket) ∧
        ((w.hook h).occ.isCarry = true → st.state = .lapsed ∧ st.withheld = some .carry ∧ u.kci = w.kci)) ∧
    (∀ m, m = e.ticket ∨ m ∈ ahead.map Prod.snd →
      (u.ticket? m).map (fun z => (z.state, z.run)) = some (.parked, some r)) ∧
    (∀ m, m ≠ e.ticket → m ∉ ahead.map Prod.snd → (u.ticket? m).map Ticket.run = (w.ticket? m).map Ticket.run) ∧
    u.sa.lanes = w.sa.lanes.map (fun x => if x.front = l.front then { x with shuffle := some r } else x) ∧
    (∀ x m, w.spaceRec x = .occupied m → u.spaceRec x = .occupied m) ∧
    (∀ x v, x ∈ front → w.spaceRec x = .held v → u.spaceRec x = .held v ∨ ∃ y f, moved x y v f) ∧
    (∀ x v z f, x ∈ front → w.spaceRec x = .held v → (∀ y ∈ front, y.val < x.val → ∀ m, w.spaceRec y ≠ .held m) →
      w.ticket? v = some z → z.claimOf? x = some f →
      (w.allocate z (some l.front) = none → u.spaceRec x = .held v ∧ (u.ticket? v).bind f.read = some x) ∧
      (∀ y, w.allocate z (some l.front) = some y → moved x y v f)) ∧
    (∀ m y, m ∈ ahead.map Prod.snd → (u.ticket? m).bind Ticket.nextSpace = some y →
      u.spaceRec y = .held m ∧ outside y) ∧
    (∀ ys : List SpaceNo, (∀ x ∈ front, ∀ v, w.spaceRec x ≠ .held v) → ys.length = ahead.length →
      (∀ (i : Nat) x m y z, ahead[i]? = some (x, m) → ys[i]? = some y → w.ticket? m = some z →
        State.allocate { w.toState with sa := { w.sa with spaces := heldFor ((ahead.zip ys).take i) } } z
          (some l.front) = some y) →
      u.sa.spaces = heldFor (ahead.zip ys) ∧
      ∀ (i : Nat) x m y, ahead[i]? = some (x, m) → ys[i]? = some y → (u.ticket? m).bind Ticket.nextSpace = some y) ∧
    u.sa.waitQueue = w.sa.waitQueue ∧ u.sa.zones = w.sa.zones ∧ u.mc = w.mc ∧ u.tb = w.tb

/-- The grant of a RETURN run: the space the allocator finds is HELD and is the ticket's Space, the ticket is RETURNING
with its key TAKEN, the run has the one step, CARRIED, and is committed, the runner is COMMITTED, and the bay the car
leaves becomes CLEARING with nothing Incoming, or stays CLEARING as it was for an eviction. No hook is released. -/
def Obligations.GrantOfAReturnRun : Prop :=
  ∀ (w : Work) (e : Entry) (r : RunnerNo) (t : Ticket) (sp : SpaceNo) (b : BayNo) (preempting : Bool),
    e.kind = .return_ → w.ticket? e.ticket = some t → t.key = .atTray → t.bay = some b →
    w.allocate t none = some sp →
    let u := w.grant e r preempting
    let d := (match w.zoneOf? sp with | some z => 2 * z.2.walk | none => 80)
    let thr := min (d + w.mc.params.s) 254
    u.run? r = some
      { kind := .return_, level := e.level, stamp := e.stamp, grantStamp := w.da.seq, target := e.ticket,
        curbSection := e.curbSection, bay := none,
        steps := [⟨e.ticket, .target, some (.bay b), none, .carried, none⟩], currentStep := 0, committed := true,
        d := d, threshold := thr, elapsed := 0, overdue := false, lost := false, notify := e.notify } ∧
    (∀ q, q ≠ r → u.run? q = w.run? q) ∧ u.da.queue = w.da.queue.filter (fun x => x.ticket != e.ticket) ∧
    u.da.seq = min (w.da.seq + 1) 4294967295 ∧ u.da.mask = w.da.mask ∧
    u.da.runners = w.da.runners.set r { w.da.runners.get r with duty := .committed } ∧
    u.ct = { w.ct with tickets := w.ct.tickets.map fun x =>
      if x.number = e.ticket then { x with space := some sp, state := .returning, run := some r, key := .taken }
      else x } ∧
    u.sa = { w.sa with spaces := w.sa.spaces.set sp (.held e.ticket) } ∧
    ((w.bay b).condition = .occupied →
      let left : Bay := { w.bay b with condition := .clearing, incoming := none, entryMade := false, locked := false }
      u.fc = { w.fc with bays := w.fc.bays.set b left }) ∧
    ((w.bay b).condition ≠ .occupied → u.fc = w.fc) ∧
    u.kci = w.kci ∧ u.mc = w.mc ∧ u.tb = w.tb ∧ u.au = w.au ∧
    u.out = w.out ++ [(w.portsWith .dispatch,
      .run r (w.da.runners.get r).team .return_ e.level e.ticket e.curbSection none true d thr preempting
        [⟨e.ticket, .target, some (.bay b), some (.space sp)⟩] (some .carried) none none)]

/-- The abort of a run that is not committed: the hook of a RELEASED step 0 is HOLDING again with LATCH for its slot,
the blockers' NextSpaces are released, the lane's Shuffle is cleared, the bay's reservation is reverted by the first
row of R146 that fits, Run is absent on the ticket of every step and Bay on the target's, the record is deleted, and
the HALT notice goes to the DISPATCH ports; nothing else changes. That EntryMade is clear in a bay that returns to
OCCUPIED is the model's reading of R142 and R146 (assumption 18). -/
def Obligations.AbortUndoesARun : Prop :=
  ∀ (w : Work) (r : RunnerNo) (q : Run) (st : RunStep) (cause : HaltCause) (returned : Bool),
    w.run? r = some q → q.kind ≠ .return_ → q.currentStep = 0 → q.steps[0]? = some st →
    w.toState.SubstLaw → w.toState.LatchLaw → w.toState.EntryLaw →
    let u := w.abortRun r cause returned
    let blockers := (q.steps.filter fun x => x.role == .blocker).map RunStep.ticket
    u.run? r = none ∧ (∀ x, x ≠ r → u.run? x = w.run? x) ∧ u.da.runners = w.da.runners ∧ u.da.seq = w.da.seq ∧
    u.da.mask = w.da.mask ∧
    (∀ m, u.ticket? m = (w.ticket? m).map fun y =>
      { y with nextSpace := if m ∈ blockers then none else y.nextSpace,
               run := if m ∈ q.steps.map RunStep.ticket then none else y.run,
               bay := if m = q.target then none else y.bay }) ∧
    u.ct.nextNumber = w.ct.nextNumber ∧
    (∀ y, (∃ m ∈ blockers, (w.ticket? m).bind Ticket.nextSpace = some y) → u.spaceRec y = .free) ∧
    (∀ y, (∀ m ∈ blockers, (w.ticket? m).bind Ticket.nextSpace ≠ some y) → u.spaceRec y = w.spaceRec y) ∧
    u.sa.lanes = w.sa.lanes.map (fun l => if l.shuffle = some r then { l with shuffle := none } else l) ∧
    u.sa.waitQueue = w.sa.waitQueue ∧ u.sa.zones = w.sa.zones ∧
    (∀ t h, w.ticket? st.ticket = some t → t.key = .onHook h → (w.hook h).occ = .released st.ticket →
      let slot := w.hookSlot h
      u.kci = { w.kci with
        hooks := w.kci.hooks.set h { w.hook h with occ := .holding st.ticket, windowLeft := 0 },
        latched := w.kci.latched.set (slotIdx slot) true,
        commands := (w.kci.commands.filter fun c => c.slot? != some slot) ++ [.latch slot] }) ∧
    ((∀ t h, w.ticket? st.ticket = some t → t.key = .onHook h → (w.hook h).occ ≠ .released st.ticket) →
      u.kci = w.kci) ∧
    (∀ b, (w.ticket? q.target).bind Ticket.bay = some b →
      let k := w.bay b
      let mine : Prop := k.incoming = some q.target
      let freed (y : TicketNo) : Bay := { k with condition := .occupied, occupant := some y, incoming := none,
                                                 entryMade := false }
      u.fc.marker = w.fc.marker ∧ (∀ c, c ≠ b → u.bay c = w.bay c) ∧
      (k.condition = .incoming → mine →
        u.bay b = ⟨.empty, none, none, false, false, false⟩ ∧ u.da.queue = w.da.queue) ∧
      (∀ y, k.condition = .clearing → mine → k.occupant = some y →
        let pending : Prop := ∃ e ∈ w.da.queue, e.ticket = y ∧ e.kind = .return_
        (pending → k.entryMade = true →
          u.bay b = freed y ∧ u.da.queue = w.da.queue.filter fun e => e.ticket != y) ∧
        (pending → k.entryMade = false → u.bay b = freed y ∧ u.da.queue = w.da.queue) ∧
        (¬ pending → u.bay b = { k with incoming := none } ∧ u.da.queue = w.da.queue)) ∧
      ((¬ mine ∨ (k.condition ≠ .incoming ∧ k.condition ≠ .clearing)) →
        u.bay b = k ∧ u.da.queue = w.da.queue)) ∧
    ((w.ticket? q.target).bind Ticket.bay = none → u.fc = w.fc ∧ u.da.queue = w.da.queue) ∧
    u.passDue = true ∧ u.arbDue = true ∧ u.mc = w.mc ∧ u.tb = w.tb ∧ u.au = w.au ∧
    u.out = w.out ++ [(w.portsWith .dispatch, .halt r q.target q.kind q.level cause returned)]

/-- CANCEL removes a pending entry, aborts the run of an ASSIGNED runner, which goes FREE with a new FreeStamp and no
entry returned, is TOO_LATE for a committed run, and is refused BAD_STATE for an eviction's entry and for a ticket with
neither. What the abort undoes is stated of the abort itself. -/
def Obligations.CancelWithdrawsARecall : Prop :=
  ∀ (s : State) (p : Port) (tag : Byte) (n : TicketNo), s.serves p .cancel = true → n ≠ 0 →
    let run := exec (.cancel p tag n) s
    (s.ticket? n = none → run = .next (s.answered p .cancel tag .noTicket .empty)) ∧
    ∀ t, s.ticket? n = some t →
      (s.evictionPending t = true → run = .next (s.answered p .cancel tag .badState .empty)) ∧
      (s.evictionPending t = false → (s.recall? n).isSome = true →
        run = .next (State.answered p .cancel tag .ok .empty
          { s with da := { s.da with queue := s.da.queue.filter fun e => e.ticket != n } })) ∧
      (s.recall? n = none → s.targetRun? n = none → run = .next (s.answered p .cancel tag .badState .empty)) ∧
      (∀ r q, s.recall? n = none → s.targetRun? n = some (r, q) → (s.da.runners.get r).duty = .committed →
        run = .next (s.answered p .cancel tag .tooLate .empty)) ∧
      (∀ r q, s.quiet = true → s.targetRun? n = some (r, q) → (s.da.runners.get r).duty = .assigned →
        q.kind ≠ .return_ →
        let a := (Work.begin s).abortRun r .cancelled false
        ∃ u, run = .next u ∧ s.Answered u p .cancel tag .ok .empty ∧ u.ct = a.ct ∧ u.sa = a.sa ∧ u.kci = a.kci ∧
          u.fc = a.fc ∧ u.au = s.au ∧
          u.da = { a.da with
            seq := min (s.da.seq + 1) 4294967295,
            runners := s.da.runners.set r { s.da.runners.get r with duty := .free, freeStamp := s.da.seq } } ∧
          u.Told (s.portsWith .dispatch) (.halt r n q.kind q.level .cancelled false) ∧ u.tb = s.tb ∧ u.mc = s.mc ∧
          s.SameOuter u)

/-- RUNNER_DUTY on makes an OFF runner FREE with a new FreeStamp, and changes just the Team of another; off makes a
FREE runner OFF, aborts the run of an ASSIGNED one, whose entry returns with the Stamp it had, and is TOO_LATE for a
COMMITTED one. DISPATCH_MASK replaces the mask, whatever is granted then; with no runner to grant to, nothing else
changes. That the response to RUNNER_DUTY is read last is assumption 11, and that it stands before the HALT notice
assumption 26. -/
def Obligations.RunnerDutyAndDispatchMask : Prop :=
  ∀ (s : State) (p : Port) (tag x tm m : Byte) (r : RunnerNo) (team : Team),
    (s.serves p .dispatchMask = true →
      ∃ u, exec (.dispatchMask p tag m) s = .next u ∧ u.da.mask = m ∧
        s.Answered u p .dispatchMask tag .ok (.mask m) ∧
        (s.unstaffed = true ∨ s.da.queue = [] →
          u = State.answered p .dispatchMask tag .ok (.mask m) { s with da := { s.da with mask := m } })) ∧
    (s.serves p .runnerDuty = true → runner? x = some r →
      let rec0 := s.da.runners.get r
      (fin? 4 tm.toNat = some team → rec0.duty = .off → s.da.queue = [] →
        exec (.runnerDutyOn p tag x tm) s =
          .next (State.answered p .runnerDuty tag .ok (.duty r .free team)
            { s with da := { s.da with runners := s.da.runners.set r ⟨.free, team, s.da.seq⟩,
                                       seq := min (s.da.seq + 1) 4294967295 } })) ∧
      (fin? 4 tm.toNat = some team → rec0.duty ≠ .off →
        exec (.runnerDutyOn p tag x tm) s =
          .next (State.answered p .runnerDuty tag .ok (.duty r rec0.duty team)
            { s with da := { s.da with runners := s.da.runners.set r { rec0 with team := team } } })) ∧
      (rec0.duty = .off →
        exec (.runnerDutyOff p tag x tm) s =
          .next (s.answered p .runnerDuty tag .ok (.duty r .off rec0.team))) ∧
      (rec0.duty = .free →
        exec (.runnerDutyOff p tag x tm) s =
          .next (State.answered p .runnerDuty tag .ok (.duty r .off rec0.team)
            { s with da := { s.da with runners := s.da.runners.set r { rec0 with duty := .off } } })) ∧
      (rec0.duty = .committed →
        exec (.runnerDutyOff p tag x tm) s = .next (s.answered p .runnerDuty tag .tooLate .empty)) ∧
      (∀ q, rec0.duty = .assigned → s.run? r = some q →
        let a := (Work.begin s).abortRun r .offDuty true
        ∃ u, exec (.runnerDutyOff p tag x tm) s = .next u ∧
          s.Answered u p .runnerDuty tag .ok (.duty r .off rec0.team) ∧ u.run? r = none ∧
          u.da.runners.get r = { rec0 with duty := .off } ∧
          u.Told (s.portsWith .dispatch) (.halt r q.target q.kind q.level .offDuty true) ∧
          ((∀ y, y ≠ r → (s.da.runners.get y).duty ≠ .free ∧ (s.da.runners.get y).duty ≠ .assigned) →
            s.recall? q.target = none → s.sa.waitQueue = [] →
            u.ct = a.ct ∧ u.sa = a.sa ∧ u.kci = a.kci ∧ u.fc = a.fc ∧ u.au = s.au ∧ u.tb = s.tb ∧ u.mc = s.mc ∧
            s.SameOuter u ∧
            u.da = { a.da with
              queue := insertEntry ⟨q.target, q.kind, q.level, q.curbSection, q.stamp, q.notify⟩ a.da.queue,
              runners := s.da.runners.set r { rec0 with duty := .off } })))

/-- REOPEN of a LAPSED step asks for its key again. With the ticket's KeyPlace on a hook HOLDING it, the key is
released, with a new window and the slot unlatched; with the hook in a carry the release is withheld, CARRY, and with
the KeyPlace not on a hook, KEY_ABSENT: the step stays LAPSED and the request is refused with the reason. A runner
whose current step is not LAPSED, or that no run names, is refused; that such a refusal carries the step's fields,
absent where there are none, is assumption 24, and that the response stands before the STEP notice assumption 26. -/
def Obligations.ReopenAsksForTheKeyAgain : Prop :=
  ∀ (s : State) (p : Port) (tag x : Byte) (r : RunnerNo), s.serves p .reopen = true → s.SubstLaw →
    runner? x = some r →
    let run := exec (.reopen p tag x) s
    (∀ q st t, s.run? r = some q → q.steps[q.currentStep]? = some st → st.state = .lapsed →
      s.ticket? st.ticket = some t →
      let become (st' : RunStep) : DispatchArbiter :=
        { s.da with runs := s.da.runs.set r (some { q with steps := q.steps.set q.currentStep st' }) }
      let withheld (y : Withheld) : Prop :=
        run = .next (State.answered p .reopen tag .badState
          (.reopenRefused r (some q.currentStep) (some .lapsed) st.hook (some y))
          { s with da := become { st with state := .lapsed, withheld := some y } })
      (∀ h, t.key = .onHook h → (s.hook h).occ = .holding st.ticket →
        ∃ u, run = .next u ∧ s.Answered u p .reopen tag .ok (.reopen r q.currentStep .released (some h)) ∧
          u.da = become { st with state := .released, hook := some h, withheld := none } ∧
          u.kci.hooks = s.kci.hooks.set h
            { s.hook h with occ := .released st.ticket, windowLeft := s.mc.params.window } ∧
          u.kci.latched.get (slotIdx (s.hookSlot h)) = false ∧ u.kci.subst = s.kci.subst ∧ u.kci.latch = s.kci.latch ∧
          u.ct = s.ct ∧ u.sa = s.sa ∧ u.fc = s.fc ∧ u.tb = s.tb ∧ u.au = s.au ∧ u.mc = s.mc ∧ s.SameOuter u) ∧
      (∀ h, t.key = .onHook h → (s.hook h).occ.isCarry = true → withheld .carry) ∧
      ((∀ h, t.key ≠ .onHook h) → withheld .keyAbsent)) ∧
    (∀ q st, s.run? r = some q → q.steps[q.currentStep]? = some st → st.state ≠ .lapsed →
      run = .next (s.answered p .reopen tag .badState
        (.reopenRefused r (some q.currentStep) (some st.state) st.hook none))) ∧
    (s.run? r = none →
      run = .next (s.answered p .reopen tag .badState (.reopenRefused r none none none none)))

/-! ## The forecourt -/

/-- STAGED: its refusals, in order, NO_TICKET, BAD_STATE for a ticket that is neither OUTBOUND nor UNCONFIRMED from
OUTBOUND, BAY_BUSY for a bay neither EMPTY nor INCOMING for it. Accepted, it stands the car in the named bay: the bay
is OCCUPIED by it, the ticket is STAGED with its key at the tray and its claims released, its run completes and its
runner is FREE, or an UNCONFIRMED one's RETRIEVE entry is removed; READY goes to the PODIUM ports and those to be
notified. A reservation of another bay is reverted: INCOMING becomes EMPTY; CLEARING returns to OCCUPIED while the
occupant's RETURN entry is pending, which is removed if the eviction made it; else it loses its Incoming. A key that
was ON_HOOK leaves its hook STRAY, and its carry abandoned. EntryMade clear in the bay that returns to OCCUPIED is
assumption 18, the order of the two LATCH commands of the carry assumption 23. -/
def Obligations.StagedPutsTheCarInItsBay : Prop :=
  ∀ (s : State) (p : Port) (tag x : Byte) (n : TicketNo) (b : BayNo),
    s.serves p .staged = true → n ≠ 0 → bay? x = some b → s.EntryLaw →
    let run := exec (.staged p tag n x) s
    let refused (r : ResultCode) : Prop := run = .next (s.answered p .staged tag r .empty)
    (s.ticket? n = none → refused .noTicket) ∧
    ∀ t, s.ticket? n = some t →
      let out : Prop := t.state = .outbound ∨ (t.state = .unconfirmed ∧ t.formerState = some .outbound)
      let open_ : Prop :=
        (s.bay b).condition = .empty ∨ ((s.bay b).condition = .incoming ∧ (s.bay b).incoming = some n)
      (¬ out → refused .badState) ∧ (out → ¬ open_ → refused .bayBusy) ∧
      (out → open_ → s.quiet = true ∨ (s.unstaffed = true ∧ s.sa.waitQueue = [] ∧ t.run = none) →
        let called := t.state == .unconfirmed || (s.targetRun? n).any fun y => y.2.kind == .retrieve
        let stale (e : Entry) : Bool := t.state == .unconfirmed && e.ticket == n && e.kind == .retrieve
        let queue := s.da.queue.filter fun e => !stale e
        ∃ u, run = .next u ∧ s.Answered u p .staged tag .ok (.staged n b called) ∧
          u.bay b = ⟨.occupied, some n, none, called, false, false⟩ ∧
          (∀ c, c ≠ b → t.bay ≠ some c → u.bay c = s.bay c) ∧ u.fc.marker = s.fc.marker ∧
          (∃ y, u.ticket? n = some y ∧ y.state = .staged ∧ y.formerState = none ∧ y.bay = some b ∧ y.key = .atTray ∧
            y.space = none ∧ y.nextSpace = none ∧ y.departure = t.departure ∧ y.guestRef = t.guestRef) ∧
          (∀ m, m ≠ n → (u.ticket? m).map (fun y => { y with run := none }) =
            (s.ticket? m).map fun y => { y with run := none }) ∧
          (∀ sp, t.space = some sp ∨ t.nextSpace = some sp → u.spaceRec sp = .free) ∧
          (∀ sp, t.space ≠ some sp → t.nextSpace ≠ some sp → u.spaceRec sp = s.spaceRec sp) ∧
          (∀ r q, s.targetRun? n = some (r, q) →
            u.run? r = none ∧ (u.da.runners.get r).duty = .free ∧
            u.sa.lanes = s.sa.lanes.map (fun l =>
              if l.shuffle = some r ∧ q.kind ≠ .return_ then { l with shuffle := none } else l) ∧
            u.Told (s.portsWith .podium ||| q.notify) (.ready n b called .staged) ∧
            ∀ st, q.kind ≠ .return_ → q.steps[q.currentStep]? = some st → st.role = .target →
              u.Told (s.portsWith .dispatch)
                (.step r n q.currentStep st.ticket .done st.hook (some (.bay b)) st.withheld q.committed true .staged)) ∧
          (∀ e, s.targetRun? n = none → e ∈ s.da.queue → stale e = true →
            u.Told (s.portsWith .podium ||| e.notify) (.ready n b called .staged)) ∧
          u.Told (s.portsWith .podium) (.ready n b called .staged) ∧
          (∀ o, t.bay = some o → o ≠ b →
            let k := s.bay o
            (k.condition = .incoming → k.incoming = some n →
              u.bay o = ⟨.empty, none, none, false, false, false⟩ ∧ u.da.queue = queue) ∧
            (∀ y, k.condition = .clearing → k.incoming = some n → k.occupant = some y → y ≠ n →
              let pending : Prop := ∃ e ∈ s.da.queue, e.ticket = y ∧ e.kind = .return_
              (pending →
                u.bay o = { k with condition := .occupied, incoming := none, entryMade := false } ∧
                u.da.queue = if k.entryMade then queue.filter (fun e => e.ticket != y) else queue) ∧
              (¬ pending → u.bay o = { k with incoming := none } ∧ u.da.queue = queue)) ∧
            (k.incoming ≠ some n → u.bay o = k ∧ u.da.queue = queue)) ∧
          (t.bay = none ∨ t.bay = some b → u.da.queue = queue) ∧ s.KeyLeft u n t.key ∧
          u.sa.zones = s.sa.zones ∧ u.tb = s.tb ∧ u.mc = s.mc ∧ s.SameOuter u)

/-- HANDOVER frees the record of a STAGED or UNCONFIRMED ticket, and refuses any other. The spaces it names are FREE,
its pending entry is gone, its key leaves its hook STRAY when it was ON_HOOK, and the bay b named by its Bay is
settled: one it stands in is EMPTY; one CLEARING with it, its RETURN entry pending or the ticket UNCONFIRMED, is
INCOMING for the ticket waiting for it, or EMPTY; one INCOMING for it is EMPTY; any other is not changed. Nothing else
changes where nothing waits for a space and no entry of another ticket is pending, or no runner could be granted one.
That the response names b in the last case too is assumption 25, the order of the two LATCH commands of a carry
assumption 23. -/
def Obligations.HandoverFreesTheRecord : Prop :=
  ∀ (s : State) (p : Port) (tag : Byte) (n : TicketNo), s.serves p .handover = true → n ≠ 0 →
    (s.ticket? n = none → exec (.handover p tag n) s = .next (s.answered p .handover tag .noTicket .empty)) ∧
    ∀ t, s.ticket? n = some t →
      let rest := s.da.queue.filter fun e => e.ticket != n
      (t.state ≠ .staged → t.state ≠ .unconfirmed →
        exec (.handover p tag n) s = .next (s.answered p .handover tag .badState .empty)) ∧
      (t.state = .staged ∨ t.state = .unconfirmed → s.sa.waitQueue = [] → rest = [] ∨ s.unstaffed = true →
        ∃ u, exec (.handover p tag n) s = .next u ∧ s.Answered u p .handover tag .ok (.handover n t.bay) ∧
          u.ct = { s.ct with tickets := s.ct.tickets.filter fun x => x.number != n } ∧
          (∀ sp, t.space = some sp ∨ t.nextSpace = some sp → u.spaceRec sp = .free) ∧
          (∀ sp, t.space ≠ some sp → t.nextSpace ≠ some sp → u.spaceRec sp = s.spaceRec sp) ∧
          u.sa.zones = s.sa.zones ∧ u.sa.lanes = s.sa.lanes ∧ u.sa.waitQueue = [] ∧
          (∀ b, t.bay = some b →
            let k := s.bay b
            let empty : Bay := ⟨.empty, none, none, false, false, false⟩
            (k.condition = .occupied → k.occupant = some n → u.bay b = empty) ∧
            (k.condition = .clearing → k.occupant = some n →
              t.state = .unconfirmed ∨ (∃ e ∈ s.da.queue, e.ticket = n ∧ e.kind = .return_) →
              (∀ x, k.incoming = some x → u.bay b = ⟨.incoming, none, some x, false, false, false⟩) ∧
              (k.incoming = none → u.bay b = empty)) ∧
            (k.condition = .incoming → k.incoming = some n → u.bay b = empty) ∧
            (k.condition = .empty ∨ (k.condition = .incoming ∧ k.incoming ≠ some n) ∨
                ((k.condition = .occupied ∨ k.condition = .clearing) ∧ k.occupant ≠ some n) →
              u.bay b = k)) ∧
          (∀ b, t.bay ≠ some b → u.bay b = s.bay b) ∧ u.fc.marker = s.fc.marker ∧
          s.KeyLeft u n t.key ∧ u.da = { s.da with queue := rest } ∧ u.tb = s.tb ∧ u.mc = s.mc ∧ s.SameOuter u)

/-- RETURN_CAR of a STAGED car clears its bay's marks and asks for a RETURN entry at the port's BaseLevel: created when
the ticket has none, merged at the lower Level when it has one. The Level in its response is that of the entry before
the event's arbitration (assumption 11). BAY_HOLD sets or clears Locked of an OCCUPIED bay, and is refused for any
other. -/
def Obligations.ReturnCarAndBayHold : Prop :=
  ∀ (s : State) (p : Port) (tag : Byte),
    (∀ (n : TicketNo) (t : Ticket), s.serves p .returnCar = true → s.unstaffed = true → n ≠ 0 → s.ticket? n = some t →
      let base := (s.mc.ports.get p).baseLevel
      (t.state ≠ .staged → exec (.returnCar p tag n) s = .next (s.answered p .returnCar tag .badState .empty)) ∧
      (∀ b, t.state = .staged → t.bay = some b → s.recall? n = none →
        exec (.returnCar p tag n) s =
          .next (State.answered p .returnCar tag .ok (.returnCar n (some base))
            { s with
              fc := { s.fc with bays := s.fc.bays.set b { s.bay b with guestCalled := false, locked := false } },
              da := { s.da with
                queue := insertEntry ⟨n, .return_, base, baySection b, s.da.seq, 0⟩ s.da.queue,
                seq := min (s.da.seq + 1) 4294967295 } })) ∧
      (∀ b e, t.state = .staged → t.bay = some b → s.recall? n = some e → e.kind = .return_ →
        let lv := if e.level.val ≤ base.val then e.level else base
        let cleared : Bay := { s.bay b with guestCalled := false, locked := false, entryMade := false }
        exec (.returnCar p tag n) s =
          .next (State.answered p .returnCar tag .merged (.returnCar n (some lv))
            { s with
              fc := { s.fc with bays := s.fc.bays.set b cleared },
              da := { s.da with
                queue := insertEntry { e with level := lv } (s.da.queue.filter fun x => x.ticket != n) } }))) ∧
    ∀ (x : Byte) (b : BayNo), s.serves p .bayHold = true → bay? x = some b →
      let locked (v : Bool) : State :=
        { s with fc := { s.fc with bays := s.fc.bays.set b { s.bay b with locked := v } } }
      let fields (v : Bool) : Payload := .bay .occupied (s.bay b).occupant (s.bay b).guestCalled v
      ((s.bay b).condition ≠ .occupied →
        exec (.bayHoldSet p tag x) s = .next (s.answered p .bayHold tag .badState .empty) ∧
        exec (.bayHoldClear p tag x) s = .next (s.answered p .bayHold tag .badState .empty)) ∧
      ((s.bay b).condition = .occupied →
        exec (.bayHoldSet p tag x) s = .next ((locked true).answered p .bayHold tag .ok (fields true)) ∧
        (s.unstaffed = true →
          exec (.bayHoldClear p tag x) s = .next ((locked false).answered p .bayHold tag .ok (fields false))))

/-! ## The key cabinet's requests -/

/-- KEY_CLAIM gives an UNVERIFIED or STRAY hook to a ticket, and RELEASE_HOOK opens it for removal or abandons a carry;
each is refused for any other hook. -/
def Obligations.StaffResolveUnownedKeys : Prop :=
  ∀ (s : State) (p : Port) (tag : Byte) (x : BitVec 16) (h : HookNo) (n : TicketNo),
    s.SubstLaw → hook? x = some h → n ≠ 0 →
    let k := s.hook h
    let unowned := k.occ = .unverified ∨ k.occ = .stray
    (s.serves p .keyClaim = true → s.unstaffed = true → ∀ t, s.ticket? n = some t →
      (¬ unowned ∨ t.key.isOnHook = true ∨ t.state = .outbound ∨ t.state = .staged →
        exec (.keyClaim p tag x n) s = .next (s.answered p .keyClaim tag .badState .empty)) ∧
      (unowned → t.key.isOnHook = false → t.state ≠ .outbound → t.state ≠ .staged →
        ∃ u, exec (.keyClaim p tag x n) s = .next u ∧ s.Answered u p .keyClaim tag .ok (.keyClaim h n) ∧
          u.kci.hooks = s.kci.hooks.set h { k with occ := .holding n, openForRemoval := false, windowLeft := 0 } ∧
          u.kci.latched.get (slotIdx (s.hookSlot h)) = true ∧ u.kci.subst = s.kci.subst ∧ u.kci.latch = s.kci.latch ∧
          u.ct = { s.ct with
            tickets := s.ct.tickets.map (fun y => if y.number = n then { y with key := .onHook h } else y) } ∧
          (t.key ≠ .missing → u.au = s.au) ∧ s.SameAlertsBut u .keyMissing ∧
          u.sa = s.sa ∧ u.da = s.da ∧ u.fc = s.fc ∧ u.tb = s.tb ∧ u.mc = s.mc ∧ s.SameOuter u)) ∧
    (s.serves p .releaseHook = true →
      (¬ unowned → k.occ.isCarry = false →
        exec (.releaseHook p tag x) s = .next (s.answered p .releaseHook tag .badState .empty)) ∧
      (unowned →
        ∃ u, exec (.releaseHook p tag x) s = .next u ∧
          s.Answered u p .releaseHook tag .ok (.releaseHook h s.mc.params.window) ∧
          u.kci.hooks = s.kci.hooks.set h { k with openForRemoval := true, windowLeft := s.mc.params.window } ∧
          u.kci.latched.get (slotIdx (s.hookSlot h)) = false ∧ u.kci.subst = s.kci.subst ∧ u.kci.latch = s.kci.latch ∧
          u.ct = s.ct ∧ u.sa = s.sa ∧ u.da = s.da ∧ u.fc = s.fc ∧ u.tb = s.tb ∧ u.au = s.au ∧ u.mc = s.mc ∧
          s.SameOuter u) ∧
      (∀ m c, k.occ = .awaitRehang m c →
        ∃ u, exec (.releaseHook p tag x) s = .next u ∧ s.Answered u p .releaseHook tag .ok (.releaseHook h 0) ∧
          u.kci.hooks = s.kci.hooks.set h { k with occ := .empty } ∧
          u.kci.latched.get (slotIdx ⟨hookBank h, c⟩) = true ∧ u.kci.subst = s.kci.subst ∧
          u.ct = { s.ct with
            tickets := s.ct.tickets.map (fun y => if y.number = m then { y with key := .missing } else y) } ∧
          s.SameAlertsBut u .keyMissing ∧ u.sa = s.sa ∧ u.da = s.da ∧ u.fc = s.fc ∧ u.tb = s.tb ∧ u.mc = s.mc ∧
          s.SameOuter u))

/-- SUBSTITUTE maps an EMPTY hook onto the lower inactive spare of its bank, opens a carry for a HOLDING hook, raises
NO_SPARE when both spares are used, and refuses any other hook. RETIRE and RESTORE of an EMPTY hook set and clear
Retired, free the spare it is mapped to, if any, and RESTORE clears Faulty; each is refused for a hook that is not
EMPTY. -/
def Obligations.SubstituteRetireAndRestore : Prop :=
  ∀ (s : State) (p : Port) (tag : Byte) (x : BitVec 16) (h : HookNo), hook? x = some h →
    (s.serves p .substitute = true →
      let bank := hookBank h
      let k := s.hook h
      (k.retired = true ∨ (s.activeEntry? h).isSome = true →
        exec (.substitute p tag x) s = .next (s.answered p .substitute tag .badState .empty)) ∧
      (k.retired = false → s.activeEntry? h = none → (∀ i, (s.entry bank i).active = true) →
        ∃ u, exec (.substitute p tag x) s = .next u ∧ s.Answered u p .substitute tag .noSpare .empty ∧
          (u.alert .noSpare).set = true ∧ (u.alert .noSpare).subject = some (.bank bank) ∧ s.SameAlertsBut u .noSpare ∧
          u.kci = s.kci ∧ u.ct = s.ct ∧ u.sa = s.sa ∧ u.da = s.da ∧ u.fc = s.fc ∧ u.tb = s.tb ∧ u.mc = s.mc ∧
          s.SameOuter u) ∧
      ∀ i, k.retired = false → s.activeEntry? h = none → (s.entry bank i).active = false →
        (∀ j, j < i → (s.entry bank j).active = true) →
        let subst := s.kci.subst.set (entryIdx bank i) ⟨true, hookPos h⟩
        (k.occ = .empty →
          exec (.substitute p tag x) s =
            .next (State.answered p .substitute tag .ok (.substitute h bank i (spareSlot bank i) none)
              { s with kci := { s.kci with subst := subst, hooks := s.kci.hooks.set h { k with faulty := false } } })) ∧
        (∀ n, k.occ = .holding n →
          ∃ u, exec (.substitute p tag x) s = .next u ∧
            s.Answered u p .substitute tag .ok (.substitute h bank i (spareSlot bank i) (some (primarySlot h))) ∧
            u.kci.subst = subst ∧
            u.kci.hooks = s.kci.hooks.set h
              { k with occ := .awaitRehang n ⟨h.val % 32, by omega⟩, faulty := false } ∧
            u.kci.latched.get (slotIdx (primarySlot h)) = false ∧
            u.kci.latched.get (slotIdx (spareSlot bank i)) = false ∧ u.kci.latch = s.kci.latch ∧
            u.ct = s.ct ∧ u.sa = s.sa ∧ u.da = s.da ∧ u.fc = s.fc ∧ u.tb = s.tb ∧ u.au = s.au ∧ u.mc = s.mc ∧
            s.SameOuter u) ∧
        (k.occ ≠ .empty → (∀ n, k.occ ≠ .holding n) →
          exec (.substitute p tag x) s = .next (s.answered p .substitute tag .badState .empty))) ∧
    (
      let k := s.hook h
      let freed : Table 32 SubstEntry :=
        match s.activeEntry? h with
        | some i => s.kci.subst.set (entryIdx (hookBank h) i) { s.entry (hookBank h) i with active := false }
        | none => s.kci.subst
      (s.serves p .retire = true →
        exec (.retire p tag x) s =
          .next (if k.occ = .empty then
              State.answered p .retire tag .ok (.retire h (s.activeEntry? h))
                { s with kci := { s.kci with hooks := s.kci.hooks.set h { k with retired := true }, subst := freed } }
            else s.answered p .retire tag .badState .empty)) ∧
      (s.serves p .restore = true →
        exec (.restore p tag x) s =
          .next (if k.occ = .empty then
              State.answered p .restore tag .ok (.restore h k.retired (s.activeEntry? h))
                { s with kci := { s.kci with
                  hooks := s.kci.hooks.set h { k with retired := false, faulty := false }, subst := freed } }
            else s.answered p .restore tag .badState .empty)))

/-- CABINET_DIAG reports the syndrome latch, the bank's two entries and its 32 hooks, and changes nothing. -/
def Obligations.CabinetDiagReports : Prop :=
  ∀ (s : State) (p : Port) (tag x : Byte), s.takesRequest p = true →
    (s.mc.ports.get p).roles.getLsbD 3 = true →
    exec (.cabinetDiag p tag x) s =
      .next (
        if s.mc.mode = .recovery then s.answered p .cabinetDiag tag .notReady .empty
        else if h : x.toNat < 16 then
          let b : BankNo := ⟨x.toNat, h⟩
          s.answered p .cabinetDiag tag .ok
            (.diag b s.kci.latch [s.entry b 0, s.entry b 1]
              ((List.finRange 32).map fun q => s.hook ⟨b.val * 32 + q.val, by omega⟩))
        else s.answered p .cabinetDiag tag .badField .empty)

/-! ## The garage's requests -/

/-- ZONE_STATE writes Open of a present zone, SPACE_SERVICE out and return move a space between FREE and OUT_OF_SERVICE;
each refuses by its own checks. -/
def Obligations.ZoneAndSpaceService : Prop :=
  ∀ (s : State) (p : Port) (tag x : Byte) (y : BitVec 16) (z : ZoneNo) (sp : SpaceNo),
    zone? x = some z → space? y = some sp → s.unstaffed = true → s.sa.waitQueue = [] →
    let opened (r : Zone) (o : Bool) : State :=
      { s with sa := { s.sa with zones := s.sa.zones.set z (some { r with isOpen := o }) } }
    let become (r : SpaceRec) : State := { s with sa := { s.sa with spaces := s.sa.spaces.set sp r } }
    (s.serves p .zoneState = true →
      (s.sa.zones.get z = none →
        exec (.zoneStateOpen p tag x) s = .next (s.answered p .zoneState tag .badState .empty) ∧
        exec (.zoneStateClose p tag x) s = .next (s.answered p .zoneState tag .badState .empty)) ∧
      (∀ r, s.sa.zones.get z = some r →
        exec (.zoneStateOpen p tag x) s = .next ((opened r true).answered p .zoneState tag .ok (.zoneState z true)) ∧
        exec (.zoneStateClose p tag x) s =
          .next ((opened r false).answered p .zoneState tag .ok (.zoneState z false)))) ∧
    (s.serves p .spaceService = true →
      (s.spaceRec sp = .unmapped →
        exec (.spaceServiceOut p tag y) s = .next (s.answered p .spaceService tag .badField .empty) ∧
        exec (.spaceServiceReturn p tag y) s = .next (s.answered p .spaceService tag .badField .empty)) ∧
      (s.spaceRec sp ≠ .unmapped → s.spaceRec sp ≠ .free →
        exec (.spaceServiceOut p tag y) s = .next (s.answered p .spaceService tag .badState .empty)) ∧
      (s.spaceRec sp = .free → (∃ d ∈ s.deeper sp, ∃ n, s.spaceRec d = .held n ∨ s.spaceRec d = .occupied n) →
        exec (.spaceServiceOut p tag y) s = .next (s.answered p .spaceService tag .badState .empty)) ∧
      (s.spaceRec sp = .free → (∀ d ∈ s.deeper sp, ∀ n, s.spaceRec d ≠ .held n ∧ s.spaceRec d ≠ .occupied n) →
        exec (.spaceServiceOut p tag y) s =
          .next ((become .outOfService).answered p .spaceService tag .ok .empty)) ∧
      (s.spaceRec sp ≠ .unmapped → s.spaceRec sp ≠ .outOfService →
        exec (.spaceServiceReturn p tag y) s = .next (s.answered p .spaceService tag .badState .empty)) ∧
      (s.spaceRec sp = .outOfService →
        exec (.spaceServiceReturn p tag y) s = .next ((become .free).answered p .spaceService tag .ok .empty)))

/-- QUERY_SPACE reports what the Space Allocator holds for a space, with no field after Condition for an UNMAPPED space,
and changes nothing. -/
def Obligations.QuerySpaceReports : Prop :=
  ∀ (s : State) (p : Port) (tag : Byte) (x : BitVec 16), s.takesRequest p = true →
    let run := exec (.querySpace p tag x) s
    (s.mc.mode = .setup → run = .next (s.answered p .querySpace tag .notReady .empty)) ∧
    (s.mc.mode ≠ .setup → 1024 ≤ x.toNat → run = .next (s.answered p .querySpace tag .badField .empty)) ∧
    ∀ h : x.toNat < 1024, s.mc.mode ≠ .setup →
      let sp : SpaceNo := ⟨x.toNat, h⟩
      let ticket : Option TicketNo :=
        match s.spaceRec sp with
        | .held n => some n
        | .occupied n => some n
        | _ => none
      let claimedAs : Option ClaimField :=
        (ticket.bind s.ticket?).bind fun t =>
          if t.space = some sp then some .space else if t.nextSpace = some sp then some .nextSpace else none
      (s.spaceRec sp = .unmapped → run = .next (s.answered p .querySpace tag .ok (.space sp .unmapped none))) ∧
      ∀ z zn l, s.spaceRec sp ≠ .unmapped → s.zoneOf? sp = some (z, zn) → s.laneOf? sp = some l →
        run = .next (s.answered p .querySpace tag .ok
          (.space sp (s.spaceRec sp) (some
            { ticket := ticket, claimedAs := claimedAs, zone := z, isOpen := zn.isOpen, cls := zn.cls,
              laneFront := l.front, position := sp.val - l.front.val, depth := zn.depth,
              quarter := (sp.val - zn.base) / (zn.size / 4),
              team := zn.teams.get (Fin.ofNat 4 ((sp.val - zn.base) / (zn.size / 4))), shuffle := l.shuffle })))

/-! ## Configuration, modes and resets -/

/-- CONFIGURE ZONE writes the record into the working configuration with Walk clamped, unless its window overlaps that of
another present zone. The other items of CONFIGURE change just their part of the working configuration; TUNE changes the
parameters in force, in the working configuration and, when it is valid, in the store. -/
def Obligations.ConfigureAndTune : Prop :=
  (∀ (s : State) (p : Port) (tag x d wk c t0 t1 t2 t3 : Byte) (base size : BitVec 16) (z : ZoneNo) (cls : ZoneClass)
    (q0 q1 q2 q3 : Option Team),
    s.serves p .configure = true → ZonesApart s.mc.working.zones → zone? x = some z → zoneClass? c = some cls →
    quarterTeam? t0 = some q0 → quarterTeam? t1 = some q1 → quarterTeam? t2 = some q2 → quarterTeam? t3 = some q3 →
    size.toNat ∈ [16, 32, 64, 128, 256, 512] → d.toNat ∈ [1, 2, 4] → base.toNat % size.toNat = 0 →
    base.toNat + size.toNat ≤ 1024 →
    let r : ZoneRec :=
      { base := base.toNat, size := size.toNat, depth := d.toNat, walk := max 1 (min wk.toNat 40), cls := cls,
        teams := ⟨[q0, q1, q2, q3], rfl⟩ }
    let clash : Prop :=
      ∃ (y : ZoneNo) (o : ZoneRec), y ≠ z ∧ s.mc.working.zones.get y = some o ∧
        ∃ sp, (r.base ≤ sp ∧ sp < r.base + r.size) ∧ o.base ≤ sp ∧ sp < o.base + o.size
    let run := exec (.configureZone p tag x base size d wk c t0 t1 t2 t3) s
    (clash → run = .next (s.answered p .configure tag .overlap .empty)) ∧
    (¬ clash →
      run = .next (State.answered p .configure tag .ok (.walk r.walk)
        { s with mc := { s.mc with
          working := { s.mc.working with zones := s.mc.working.zones.set z (some r) } } }))) ∧
  ∀ (s : State) (p : Port) (tag x rs bl ds k sl w l : Byte) (ae : BitVec 16),
    let q : Params := ⟨max 1 (min k.toNat 63), min sl.toNat 40, max 2 (min w.toNat 20), min l.toNat 60⟩
    (s.serves p .configure = true →
      (∀ z, zone? x = some z →
        exec (.configureZoneRemove p tag x) s =
          .next (State.answered p .configure tag .ok .empty
            { s with mc := { s.mc with
              working := { s.mc.working with zones := s.mc.working.zones.set z none } } })) ∧
      (∀ (y : Port) (lv : Level) (sec : Section4),
        x.toNat = y.val → rs.toNat < 16 → level? bl = some lv → curbSection? ds = some sec → ae.toNat < 2048 →
        exec (.configurePort p tag x rs bl ds ae) s =
          .next (State.answered p .configure tag .ok .empty
            { s with mc := { s.mc with
              working := { s.mc.working with
                ports := s.mc.working.ports.set y ⟨rs.setWidth 4, lv, sec, ae.setWidth 11⟩ } } })) ∧
      exec (.configureParams p tag k sl w l) s =
        .next (State.answered p .configure tag .ok (.params q)
          { s with mc := { s.mc with working := { s.mc.working with params := q } } })) ∧
    (s.serves p .tune = true →
      exec (.tune p tag k sl w l) s =
        .next (State.answered p .tune tag .ok (.tune q s.mc.storeValid)
          { s with mc := { s.mc with
            params := q, working := { s.mc.working with params := q },
            store := if s.mc.storeValid then s.mc.store.map (fun c => { c with params := q }) else s.mc.store } }))

/-- COMMIT_SETUP stores the working configuration, takes it into force, builds an empty garage from it and enters
SERVICE; without a MAINT port in it, it is refused. -/
def Obligations.CommitSetupEntersService : Prop :=
  ∀ (s : State) (p : Port) (tag : Byte), s.serves p .commitSetup = true →
    let cfg := s.mc.working
    ((∀ q, (cfg.ports.get q).roles.getLsbD 3 = false) →
      exec (.commitSetup p tag) s = .next (s.answered p .commitSetup tag .badField .empty)) ∧
    (∀ q, (cfg.ports.get q).roles.getLsbD 3 = true → s.sa.waitQueue = [] → ZonesApart cfg.zones →
      ∃ u, exec (.commitSetup p tag) s = .next u ∧
        s.Answered u p .commitSetup tag .ok (.commit u.zoneCount u.freeSpaces) ∧
        u.mc = { s.mc with store := some cfg, storeValid := true, ports := cfg.ports, params := cfg.params,
                           commitMark := true, retainedValid := true, mode := .service } ∧
        (∀ z, u.sa.zones.get z = (cfg.zones.get z).map fun r => ⟨r, true⟩) ∧
        (∀ sp z r, cfg.zones.get z = some r → r.base ≤ sp.val → sp.val < r.base + r.size → u.spaceRec sp = .free) ∧
        (∀ sp, (∀ z r, cfg.zones.get z = some r → ¬ (r.base ≤ sp.val ∧ sp.val < r.base + r.size)) →
          u.spaceRec sp = .unmapped) ∧
        (∀ l, l ∈ u.sa.lanes ↔ l.shuffle = none ∧ ∃ z r, cfg.zones.get z = some r ∧ r.depth = l.depth ∧
          r.base ≤ l.front.val ∧ l.front.val < r.base + r.size ∧ (l.front.val - r.base) % r.depth = 0) ∧
        u.sa.waitQueue = [] ∧ (∀ q, u.au.enables.get q = (cfg.ports.get q).alertEnables) ∧
        u.au.flags = s.au.flags ∧ u.AttentionLaw ∧ u.ct = s.ct ∧ u.kci = s.kci ∧ u.da = s.da ∧ u.fc = s.fc ∧
        u.tb = s.tb ∧ s.SameOuter u)

/-- COLD_START, with no ticket on record, resets every custody block to its cold values and keeps the configuration the
part ran with and the links; with a ticket it is refused. -/
def Obligations.ColdStartReturnsToSetup : Prop :=
  ∀ (s : State) (p : Port) (tag : Byte), s.serves p .coldStart = true →
    (s.ct.tickets ≠ [] → exec (.coldStart p tag) s = .next (s.answered p .coldStart tag .badState .empty)) ∧
    (s.ct.tickets = [] →
      ∃ u, exec (.coldStart p tag) s = .next u ∧ s.Answered u p .coldStart tag .ok .empty ∧
        u.mc.mode = .setup ∧ u.mc.cause = .requestCold ∧ u.mc.commitMark = false ∧ u.mc.retainedValid = false ∧
        u.mc.store = s.mc.store ∧ u.mc.storeValid = s.mc.storeValid ∧ u.mc.ports = s.mc.ports ∧
        u.mc.params = s.mc.params ∧ u.mc.working.ports = s.mc.ports ∧ u.mc.working.params = s.mc.params ∧
        (∀ z, u.mc.working.zones.get z = (s.sa.zones.get z).map Zone.toZoneRec) ∧ u.mc.scanBank = none ∧
        u.ct.tickets = [] ∧ u.ct.nextNumber = 1 ∧ (∀ z, u.sa.zones.get z = none) ∧
        (∀ sp, u.spaceRec sp = .unmapped) ∧ u.sa.lanes = [] ∧ u.sa.waitQueue = [] ∧
        (∀ h, u.hook h = ⟨.empty, false, false, false, 0⟩) ∧ (∀ i, u.kci.subst.get i = ⟨false, 0⟩) ∧
        u.kci.latch.valid = false ∧ u.kci.commands = allSlots.map .latch ∧ (∀ i, u.kci.latched.get i = true) ∧
        u.da.queue = [] ∧ u.da.seq = 0 ∧ u.da.mask = 0xFF ∧
        (∀ r, u.da.runners.get r = ⟨.off, 0, 0⟩ ∧ u.run? r = none) ∧
        (∀ b, u.bay b = ⟨.empty, none, none, false, false, false⟩) ∧ (∀ c, u.fc.marker.get c = 0) ∧
        u.tb = ⟨0, 0⟩ ∧ (∀ f, u.alert f = ⟨false, none, 0⟩) ∧ (∀ q, u.au.attention.get q = false) ∧
        (∀ q, u.au.enables.get q = (s.mc.ports.get q).alertEnables) ∧ s.SameOuter u)

/-- CLEAR_ALERT clears the event flags named, makes the Count of a condition flag that is set 0, leaves every other
record, and reports the records as they stood. A set that names a flag outside the eleven is refused. -/
def Obligations.ClearAlertClearsTheFlagsNamed : Prop :=
  ∀ (s : State) (p : Port) (tag : Byte) (x : BitVec 16), s.serves p .clearAlert = true →
    (2048 ≤ x.toNat → exec (.clearAlert p tag x) s = .next (s.answered p .clearAlert tag .badField .empty)) ∧
    (x.toNat < 2048 → ∃ u, exec (.clearAlert p tag x) s = .next u ∧
      { u with au := s.au } = s.answered p .clearAlert tag .ok (.alerts s.au.setMask u.au.setMask s.au.flags.list) ∧
      (∀ f, u.alert f =
        if x.getLsbD f.idx.val = true ∧ (s.alert f).set = true then
          (if f.isCondition then { s.alert f with count := 0 } else ⟨false, none, 0⟩)
        else s.alert f) ∧
      u.au.enables = s.au.enables ∧ u.AttentionLaw)

/-- STATUS reports the part's state as it stands, and clears just the port's NoticeOverflow. -/
def Obligations.StatusReports : Prop :=
  ∀ (s : State) (p : Port) (tag : Byte), s.takesRequest p = true →
    exec (.status p tag) s =
      .next (State.answered p .status tag .ok
        (.status s.mc.mode s.mc.cause s.mc.retainedValid s.mc.storeValid s.tb.minute s.ct.tickets.length
          s.sa.waitQueue.length s.da.queue.length
          (s.da.runners.list.filter fun r => r.duty != .off).length
          (s.sa.spaces.list.filter fun r => r == .free).length s.mc.scanBank s.mc.silentBanks
          (s.slu.get p).overflow)
        (s.updLink p fun l => { l with overflow := false }))

/-- A power-on or reset-line reset without valid retained memory is cold: every block takes its cold values, the
configuration is loaded from a store that passes its check and from the defaults otherwise, and the MODE notice stands
alone in every transmit queue. The held line is released, and the supply lost, with what each keeps. That a POWER_ON of a
powered part is a reset all the same and leaves the reset line as it stands, and the two operands, are the model's choice
(assumption 13); so is that an unpowered part takes nothing but the level of its reset line (assumption 6). -/
def Obligations.ColdResetReleaseAndPowerLoss : Prop :=
  ∀ (s : State) (rp sp : Bool),
    let store := if sp then s.mc.store else none
    let cfg := store.getD defaultConfig
    let cold (u : State) (cause : ResetCause) : Prop :=
      u.mc.mode = .setup ∧ u.mc.cause = cause ∧ u.mc.commitMark = false ∧ u.mc.retainedValid = false ∧
      u.mc.store = store ∧ u.mc.storeValid = store.isSome ∧ u.mc.working = cfg ∧ u.mc.ports = cfg.ports ∧
      u.mc.params = cfg.params ∧ u.mc.scanBank = none ∧ u.ct = ⟨[], 1⟩ ∧ (∀ z, u.sa.zones.get z = none) ∧
      (∀ x, u.spaceRec x = .unmapped) ∧ u.sa.lanes = [] ∧ u.sa.waitQueue = [] ∧
      (∀ h, u.hook h = ⟨.empty, false, false, false, 0⟩) ∧ (∀ i, u.kci.subst.get i = ⟨false, 0⟩) ∧
      u.kci.latch.valid = false ∧ u.kci.commands = allSlots.map .latch ∧ (∀ i, u.kci.latched.get i = true) ∧
      u.kci.receiver = .hunting ∧ u.kci.buffer = [] ∧ u.da.queue = [] ∧ u.da.seq = 0 ∧ u.da.mask = 0xFF ∧
      (∀ r, u.da.runners.get r = ⟨.off, 0, 0⟩ ∧ u.run? r = none) ∧
      (∀ b, u.bay b = ⟨.empty, none, none, false, false, false⟩) ∧ (∀ c, u.fc.marker.get c = 0) ∧ u.tb = ⟨0, 0⟩ ∧
      (∀ f, u.alert f = ⟨false, none, 0⟩) ∧
      (∀ p, u.au.enables.get p = (cfg.ports.get p).alertEnables ∧ u.au.attention.get p = false) ∧
      (∀ p, (u.slu.get p).tx = [.notice (.mode .setup cause 0)] ∧ (u.slu.get p).receiver = .hunting ∧
        (u.slu.get p).buffer = [] ∧ (u.slu.get p).overflow = false) ∧
      u.powered = true ∧ u.pending = s.pending
    ((rp && s.mc.commitMark) = false →
      (∃ u, exec (.powerOn rp sp) s = .next u ∧ cold u .powerCold ∧ u.held = s.held) ∧
      (s.powered = true → ∃ u, exec (.resetLine rp sp) s = .next u ∧ cold u .lineCold ∧ u.held = true)) ∧
    (s.powered = false → exec (.resetLine rp sp) s = .next { s with held := true }) ∧
    exec .resetLineRelease s =
      .next (if s.held then { s with held := false, tb := { s.tb with phase := 0 } } else s) ∧
    ∃ u, exec .powerLoss s = .next u ∧ u.powered = false ∧ u.ct = s.ct ∧ u.sa = s.sa ∧ u.fc = s.fc ∧
      u.kci.hooks = s.kci.hooks ∧ u.kci.subst = s.kci.subst ∧ u.tb.minute = s.tb.minute ∧
      u.mc.store = s.mc.store ∧ u.mc.storeValid = s.mc.storeValid ∧ u.mc.commitMark = s.mc.commitMark ∧
      u.held = s.held ∧ u.pending = s.pending

/-- A power-on or reset-line reset over valid retained memory is warm: custody is kept and adjusted, the volatile blocks
are cleared, every slot is commanded anew, and the part is in RECOVERY with the scan of bank 0 begun. The adjustments:
tickets in motion become UNCONFIRMED, a PARKED ticket's NextSpace is released with its space, and each bay and each
ticket's Bay is as the first fitting row of R157 says. That a POWER_ON of a powered part is a reset all the same and
leaves the reset line as it stands, and the operands that say whether retained memory and the store pass their checks,
are assumption 13; that a held part takes nothing else is assumption 6. -/
def Obligations.WarmResetKeepsCustody : Prop :=
  ∀ (s : State) (sp : Bool), s.mc.commitMark = true →
    let store := if sp then s.mc.store else none
    let cfg := store.getD defaultConfig
    let unsettled (t : Ticket) : TicketState × Option FormerState :=
      match t.state with
      | .relocating => (.unconfirmed, some .relocating)
      | .outbound => (.unconfirmed, some .outbound)
      | .returning => (.unconfirmed, some .returning)
      | x => (x, t.formerState)
    let kept (t : Ticket) := (t.number, t.space, t.key, t.departure, t.guestRef, t.priority, t.prestageDone)
    let unsure (n : TicketNo) : Prop :=
      ∃ t, s.ticket? n = some t ∧ t.state ∈ [.relocating, .outbound, .returning, .unconfirmed]
    let bays (u : State) : Prop :=
      ∀ b, let k := s.bay b
        (k.condition = .empty ∨ k.condition = .occupied → u.bay b = k) ∧
        (∀ x, k.condition = .incoming → k.incoming = some x →
          (unsure x → u.bay b = k) ∧ (¬ unsure x → u.bay b = ⟨.empty, none, none, false, false, false⟩)) ∧
        ∀ y, k.condition = .clearing → k.occupant = some y →
          ((∃ t, s.ticket? y = some t ∧ t.state = .staged) →
            u.bay b = ⟨.occupied, some y, none, false, false, false⟩) ∧
          (¬ (∃ t, s.ticket? y = some t ∧ t.state = .staged) →
            (∀ x, k.incoming = some x → unsure x → u.bay b = k) ∧
            ((∀ x, k.incoming = some x → ¬ unsure x) → u.bay b = { k with incoming := none }))
    let lost (u : State) (t : Ticket) : Prop :=
      (¬ unsure t.number ∧ ∃ b, (s.bay b).incoming = some t.number ∧
        ((s.bay b).condition = .incoming ∨ ((s.bay b).condition = .clearing ∧ (s.bay b).occupant.isSome = true))) ∨
      (t.state = .parked ∧ ∃ b, t.bay = some b ∧ (u.bay b).occupant ≠ some t.number ∧
        (u.bay b).incoming ≠ some t.number)
    let warm (u : State) (cause : ResetCause) : Prop :=
      u.mc.mode = .recovery ∧ u.mc.cause = cause ∧ u.mc.commitMark = true ∧ u.mc.retainedValid = true ∧
      u.mc.store = store ∧ u.mc.storeValid = store.isSome ∧ u.mc.working = cfg ∧ u.mc.ports = cfg.ports ∧
      u.mc.params = cfg.params ∧ u.mc.scanBank = some 0 ∧ u.mc.scanWaited = 0 ∧ u.mc.silentBanks = 0 ∧
      u.ct.nextNumber = s.ct.nextNumber ∧ u.ct.tickets.map kept = s.ct.tickets.map kept ∧
      u.ct.tickets.map (fun t => (t.state, t.formerState)) = s.ct.tickets.map unsettled ∧
      (∀ t ∈ u.ct.tickets, t.run = none) ∧ bays u ∧
      ((s.ct.tickets.map Ticket.number).Nodup →
        u.ct.tickets.map Ticket.nextSpace =
          s.ct.tickets.map (fun t => if t.state = .parked then none else t.nextSpace) ∧
        (∀ t ∈ s.ct.tickets, ∀ x, t.state = .parked → t.nextSpace = some x → u.spaceRec x = .free) ∧
        (∀ x, (∀ t ∈ s.ct.tickets, t.state = .parked → t.nextSpace ≠ some x) → u.spaceRec x = s.spaceRec x) ∧
        ∀ t ∈ s.ct.tickets,
          (lost u t → (u.ticket? t.number).map Ticket.bay = some none) ∧
          (¬ lost u t → (u.ticket? t.number).map Ticket.bay = some t.bay)) ∧
      u.sa.zones = s.sa.zones ∧ u.sa.waitQueue = s.sa.waitQueue ∧
      u.sa.lanes = s.sa.lanes.map (fun l => { l with shuffle := none }) ∧
      (∀ h, u.hook h =
        { s.hook h with occ := (match (s.hook h).occ with | .released n => .holding n | o => o),
                        openForRemoval := false, windowLeft := 0 }) ∧
      u.kci.subst = s.kci.subst ∧ u.kci.latch.valid = false ∧
      (∃ cs, u.kci.commands = cs ++ [.scan 0] ∧ cs.map CabinetCommand.slot? = allSlots.map some) ∧
      (∀ i, u.kci.latched.get i = u.wantLatched (slotOf i)) ∧ u.kci.buffer = [] ∧
      u.da.queue = [] ∧ u.da.seq = 0 ∧ u.da.mask = 0xFF ∧
      (∀ r, u.da.runners.get r = ⟨.off, 0, 0⟩ ∧ u.run? r = none) ∧ u.fc.marker = s.fc.marker ∧
      u.tb.phase = 0 ∧ u.tb.minute = s.tb.minute ∧
      (∀ f, f.isCondition = false → u.alert f = ⟨false, none, 0⟩) ∧
      ((u.alert .spaceWait).set = true ↔ s.sa.waitQueue ≠ []) ∧
      ((u.alert .keyMissing).set = true ↔ ∃ t ∈ s.ct.tickets, t.key = .missing) ∧
      (∀ p, u.au.enables.get p = (cfg.ports.get p).alertEnables) ∧ u.AttentionLaw ∧
      (∀ p, (∃ ns : List Notice,
          (u.slu.get p).tx = .notice (.mode .recovery cause s.tb.minute) :: ns.map Frame.notice) ∧
        (u.slu.get p).receiver = .hunting ∧ (u.slu.get p).buffer = []) ∧
      u.powered = true ∧ u.pending = s.pending
    (∃ u, exec (.powerOn true sp) s = .next u ∧ warm u .powerWarm ∧ u.held = s.held) ∧
    (s.powered = true → ∃ u, exec (.resetLine true sp) s = .next u ∧ warm u .lineWarm ∧ u.held = true)

/-! ## Time -/

/-- A service tick advances the phase, or starts it anew with a minute event; every run's Elapsed rises to 255 at most,
marking it Overdue at its Threshold and Lost at 255; every WindowLeft falls, and one that comes to 0 ends a release,
whose hook is HOLDING again with RELEASE_LAPSED raised and its current step LAPSED, or an opening for removal; and an
awaited bank is counted or times out. No runner is FREE or ASSIGNED. The order of a tick's work is assumption 2, and
ScanWaited after the time-out of bank 15 assumption 21. -/
def Obligations.ServiceTickCounts : Prop :=
  ∀ s : State, s.live = true → s.unstaffed = true →
    ∃ u, exec .serviceTick s = .next u ∧
      (s.tb.phase ≠ 3 → u.tb = ⟨s.tb.phase + 1, s.tb.minute⟩) ∧
      (s.tb.phase = 3 → u.tb = ⟨0, min (s.tb.minute + 1) 16777215⟩) ∧
      (∀ r q, s.run? r = some q → ∃ q', u.run? r = some q' ∧
        q'.elapsed = (if q.elapsed < 255 then q.elapsed + 1 else q.elapsed) ∧
        q'.overdue = (q.overdue || decide (q.elapsed < 255 ∧ q.elapsed + 1 = q.threshold)) ∧
        q'.lost = (q.lost || decide (q.elapsed + 1 = 255)) ∧
        q'.threshold = q.threshold ∧ q'.target = q.target ∧ q'.kind = q.kind ∧ q'.level = q.level ∧
        q'.committed = q.committed) ∧
      (∀ h, (s.hook h).windowLeft ≠ 1 → u.hook h = { s.hook h with windowLeft := (s.hook h).windowLeft - 1 }) ∧
      (∀ h n, (s.hook h).windowLeft = 1 → (s.hook h).occ = .released n →
        u.hook h = { s.hook h with occ := .holding n, windowLeft := 0 } ∧ (u.alert .releaseLapsed).set = true ∧
        ∀ r q st, s.runOf? n = some (r, q) → q.steps[q.currentStep]? = some st → st.ticket = n → st.state = .released →
          ∃ q', u.run? r = some q' ∧
            q'.steps = q.steps.set q.currentStep { st with state := .lapsed, withheld := none }) ∧
      (∀ h, (s.hook h).windowLeft = 1 → (∀ n, (s.hook h).occ ≠ .released n) →
        u.hook h = { s.hook h with openForRemoval := false, windowLeft := 0 }) ∧
      (∀ b, s.mc.mode = .recovery → s.mc.scanBank = some b →
        (s.mc.scanWaited + 1 < 4 → u.mc = { s.mc with scanWaited := s.mc.scanWaited + 1 }) ∧
        (4 ≤ s.mc.scanWaited + 1 → u.mc.silentBanks = s.mc.silentBanks + 1 ∧ u.mc.scanWaited = 0)) ∧
      (s.mc.mode ≠ .recovery → u.mc = s.mc) ∧ u.da.runners = s.da.runners ∧ u.fc = s.fc ∧
      u.sa.zones = s.sa.zones ∧ u.sa.lanes = s.sa.lanes ∧ s.Noticed u ∧ s.SameOuter u

/-- A minute event advances the counter, saturating; in SERVICE with L above 0 every ticket that is due is given a
PRESTAGE entry of Level 7 and marked, and no other ticket changes; otherwise nothing else changes. That the minute event
is a command of its own, which leaves the tick's phase as it is, is the model's choice (assumption 2). -/
def Obligations.MinuteEventScansForPrestage : Prop :=
  ∀ s : State, s.live = true →
    let now := min (s.tb.minute + 1) 16777215
    (s.mc.mode ≠ .service ∨ s.mc.params.l = 0 →
      exec .minuteEvent s = .next { s with tb := { s.tb with minute := now } }) ∧
    (s.mc.mode = .service → 0 < s.mc.params.l → s.unstaffed = true → (s.ct.tickets.map Ticket.number).Nodup →
      ∃ u, exec .minuteEvent s = .next u ∧ u.tb = { s.tb with minute := now } ∧
        (∀ t ∈ s.ct.tickets,
          let due : Prop :=
            t.state = .parked ∧ t.run = none ∧ t.key.isOnHook = true ∧ s.recall? t.number = none ∧
            t.prestageDone = false ∧ ∃ d, t.departure = some d ∧ d ≤ now + s.mc.params.l
          (due → u.ticket? t.number = some { t with prestageDone := true } ∧
            ∃ e, u.recall? t.number = some e ∧ e.kind = .prestage ∧ e.level = 7 ∧ e.curbSection = t.curbSection ∧
              e.notify = 0) ∧
          (¬ due → u.ticket? t.number = some t ∧ u.recall? t.number = s.recall? t.number)) ∧
        u.sa = s.sa ∧ u.kci = s.kci ∧ u.fc = s.fc ∧ u.au = s.au ∧ u.mc = s.mc ∧ u.da.runners = s.da.runners ∧
        u.da.runs = s.da.runs ∧ s.Noticed u ∧ s.SameOuter u)

/-- The counts of a service tick that run out, each by itself (assumption 2): a released key's window, a removal
window, a run at its Threshold and at 255, and the wait for a bank; where the count has not come to its last tick, or
a run is already Overdue or Lost, nothing happens. That a new SCAN takes the place of one that waits is assumption 8,
and ScanWaited 0 after bank 15 assumption 21. -/
def Obligations.CountsThatRunOut : Prop :=
  ∀ s : State, s.live = true →
    (∀ h n, s.unstaffed = true → s.SubstLaw → (s.hook h).occ = .released n → (s.hook h).windowLeft ≤ 1 →
      ∃ u, exec (.releaseLapse h) s = .next u ∧
        u.kci.hooks = s.kci.hooks.set h { s.hook h with occ := .holding n, windowLeft := 0 } ∧
        u.kci.latched.get (slotIdx (s.hookSlot h)) = !(s.hook h).openForRemoval ∧
        (u.alert .releaseLapsed).set = true ∧ (u.alert .releaseLapsed).subject = some (.ticket n) ∧
        s.SameAlertsBut u .releaseLapsed ∧
        (∀ r q st, s.runOf? n = some (r, q) → q.steps[q.currentStep]? = some st → st.ticket = n →
          st.state = .released →
          u.run? r = some
            { q with steps := q.steps.set q.currentStep { st with state := .lapsed, withheld := none } }) ∧
        u.da.queue = s.da.queue ∧ u.da.runners = s.da.runners ∧ u.ct = s.ct ∧ u.sa = s.sa ∧ u.fc = s.fc ∧
        u.tb = s.tb ∧ u.mc = s.mc ∧ s.Noticed u ∧ s.SameOuter u) ∧
    (∀ h, ((∀ n, (s.hook h).occ ≠ .released n) ∨ 1 < (s.hook h).windowLeft) → exec (.releaseLapse h) s = .next s) ∧
    (∀ h, s.SubstLaw → ((s.hook h).occ = .unverified ∨ (s.hook h).occ = .stray) →
      (s.hook h).openForRemoval = true → (s.hook h).windowLeft ≤ 1 →
      ∃ u, exec (.removalWindowExpiry h) s = .next u ∧
        u.kci.hooks = s.kci.hooks.set h { s.hook h with openForRemoval := false, windowLeft := 0 } ∧
        u.kci.latched.get (slotIdx (s.hookSlot h)) = true ∧ { u with kci := s.kci } = s) ∧
    (∀ h, (s.hook h).openForRemoval = false ∨ 1 < (s.hook h).windowLeft →
      exec (.removalWindowExpiry h) s = .next s) ∧
    (∀ r q, s.run? r = some q → q.overdue = false → q.threshold ≤ q.elapsed + 1 →
      ∃ u, exec (.runOverdue r) s = .next u ∧
        u.da = { s.da with
          runs := s.da.runs.set r (some { q with elapsed := max q.elapsed q.threshold, overdue := true }) } ∧
        (u.alert .runOverdue).set = true ∧ (u.alert .runOverdue).subject = some (.runner r) ∧
        s.SameAlertsBut u .runOverdue ∧ { u with da := s.da, au := s.au, slu := s.slu } = s ∧ s.Noticed u) ∧
    (∀ r q, s.run? r = some q → q.lost = false → 255 ≤ q.elapsed + 1 →
      ∃ u, exec (.runLost r) s = .next u ∧
        u.da = { s.da with runs := s.da.runs.set r (some { q with elapsed := 255, lost := true }) } ∧
        (u.alert .runLost).set = true ∧ (u.alert .runLost).subject = some (.runner r) ∧
        s.SameAlertsBut u .runLost ∧ { u with da := s.da, au := s.au, slu := s.slu } = s ∧ s.Noticed u) ∧
    (∀ r, s.run? r = none → exec (.runOverdue r) s = .next s ∧ exec (.runLost r) s = .next s) ∧
    (∀ r q, s.run? r = some q →
      (q.overdue = true ∨ q.elapsed + 1 < q.threshold → exec (.runOverdue r) s = .next s) ∧
      (q.lost = true ∨ q.elapsed + 1 < 255 → exec (.runLost r) s = .next s)) ∧
    (∀ b, s.mc.mode = .recovery → s.mc.scanBank = some b → 4 ≤ s.mc.scanWaited + 1 → s.sa.waitQueue = [] →
      ∃ u, exec .bankScanTimeout s = .next u ∧
        (∀ b', b'.val = b.val + 1 →
          u.mc = { s.mc with scanBank := some b', scanWaited := 0, silentBanks := s.mc.silentBanks + 1 } ∧
          u.kci.commands = (s.kci.commands.filter fun c => c.slot?.isSome) ++ [.scan b']) ∧
        (b = 15 →
          u.mc = { s.mc with scanBank := none, scanWaited := 0, silentBanks := s.mc.silentBanks + 1,
                             mode := .service } ∧ u.kci = s.kci) ∧
        (u.alert .hookFault).set = true ∧ (u.alert .hookFault).subject = some (.bank b) ∧
        s.SameAlertsBut u .hookFault ∧ u.kci.hooks = s.kci.hooks ∧ u.ct = s.ct ∧ u.sa = s.sa ∧ u.da = s.da ∧
        u.fc = s.fc ∧ u.tb = s.tb ∧ s.Noticed u ∧ s.SameOuter u) ∧
    (s.mc.mode ≠ .recovery ∨ s.mc.scanWaited + 1 < 4 → exec .bankScanTimeout s = .next s)

/-! ## The cabinet's messages -/

/-- HUNG on every slot in use. On an EMPTY hook the word decides between the ticket's key hung, a tag that cannot be read
and a stray key; on any other hook not in a carry, the report is a sensor fault. On the CarrySlot of a carry nothing
changes; on its spare slot the carry closes: HOLDING again on the number expected, else UNVERIFIED or STRAY with the key
MISSING, and LATCH for the CarrySlot and then for the spare slot. On an unmapped slot or a retired hook it is
discarded. -/
def Obligations.HungRecordsAKey : Prop :=
  ∀ (s : State) (sl : Slot) (field : BitVec 24), s.takesCabinet = true → s.unstaffed = true →
    let word : BitVec 22 := field.setWidth 22
    let latch : SyndromeLatch :=
      if tagClass word = .clean then s.kci.latch
      else ⟨true, sl, word, syndrome word, parityGood word, tagClass word⟩
    let hunting : State := { s with kci := { s.kci with receiver := .hunting } }
    let run := exec (.hung sl field) s
    (s.slotOwner sl = .unmapped → run = .next hunting) ∧
    (∀ h, s.slotOwner sl = .carrySlot h → run = .next hunting) ∧
    (∀ h n c t, s.slotOwner sl = .carrySpare h → s.SubstLaw → s.LatchLaw → (s.hook h).occ = .awaitRehang n c →
      s.ticket? n = some t → t.key = .onHook h →
      let old : Slot := ⟨hookBank h, c⟩
      let closed (u : State) (o : Occupancy) : Prop :=
        u.kci = { hunting.kci with
          hooks := s.kci.hooks.set h { s.hook h with occ := o }, latch := latch,
          latched := (s.kci.latched.set (slotIdx old) true).set (slotIdx sl) true,
          commands := (s.kci.commands.filter fun x => x.slot? != some old && x.slot? != some sl) ++
            [.latch old, .latch sl] } ∧
        { u with kci := s.kci, ct := s.ct, au := s.au, slu := s.slu } = s ∧ s.Noticed u
      let missing (u : State) (f : AlertFlag) : Prop :=
        u.ct = { s.ct with
          tickets := s.ct.tickets.map (fun y => if y.number = n then { y with key := .missing } else y) } ∧
        (u.alert f).set = true ∧ (u.alert f).subject = some (.hook h) ∧ (u.alert .keyMissing).set = true ∧
        (∀ g, g ≠ f → g ≠ .keyMissing → u.alert g = s.alert g) ∧ u.au.enables = s.au.enables
      (decodeTag word = some n → ∃ u, run = .next u ∧ closed u (.holding n) ∧ u.ct = s.ct ∧ u.au = s.au) ∧
      (decodeTag word = none → ∃ u, run = .next u ∧ closed u .unverified ∧ missing u .tagUnreadable) ∧
      (∀ m, decodeTag word = some m → m ≠ n → ∃ u, run = .next u ∧ closed u .stray ∧ missing u .strayKey)) ∧
    ∀ h, s.slotOwner sl = .hook h →
      ((s.hook h).retired = true → run = .next hunting) ∧
      ((s.hook h).retired = false → (s.hook h).occ ≠ .empty →
        ∃ u, run = .next u ∧
          u.kci = { hunting.kci with hooks := s.kci.hooks.set h { s.hook h with faulty := true } } ∧
          (u.alert .hookFault).set = true ∧ (u.alert .hookFault).subject = some (.hook h) ∧
          s.SameAlertsBut u .hookFault ∧ { u with kci := s.kci, au := s.au, slu := s.slu } = s ∧ s.Noticed u) ∧
      ((s.hook h).retired = false → (s.hook h).occ = .empty →
        (decodeTag word = none →
          ∃ u, run = .next u ∧
            u.kci = { hunting.kci with
              hooks := s.kci.hooks.set h { s.hook h with occ := .unverified }, latch := latch } ∧
            (u.alert .tagUnreadable).set = true ∧ (u.alert .tagUnreadable).subject = some (.hook h) ∧
            s.SameAlertsBut u .tagUnreadable ∧ { u with kci := s.kci, au := s.au, slu := s.slu } = s ∧
            s.Noticed u) ∧
        (∀ n t, decodeTag word = some n → s.ticket? n = some t → (∀ g, t.key = .onHook g → g = h) →
          t.state ≠ .outbound → t.state ≠ .staged →
          ∃ u, run = .next u ∧
            u.kci = { hunting.kci with
              hooks := s.kci.hooks.set h { s.hook h with occ := .holding n }, latch := latch } ∧
            u.ct = { s.ct with
              tickets := s.ct.tickets.map (fun y => if y.number = n then { y with key := .onHook h } else y) } ∧
            s.SameAlertsBut u .keyMissing ∧ (t.key ≠ .missing → u.au = s.au) ∧
            { u with kci := s.kci, ct := s.ct, au := s.au, slu := s.slu } = s ∧ s.Noticed u) ∧
        (∀ n, decodeTag word = some n →
          (∀ t, s.ticket? n = some t →
            (∃ g, t.key = .onHook g ∧ g ≠ h) ∨ t.state = .outbound ∨ t.state = .staged) →
          ∃ u, run = .next u ∧
            u.kci = { hunting.kci with
              hooks := s.kci.hooks.set h { s.hook h with occ := .stray }, latch := latch } ∧
            (u.alert .strayKey).set = true ∧ (u.alert .strayKey).subject = some (.hook h) ∧
            s.SameAlertsBut u .strayKey ∧ { u with kci := s.kci, au := s.au, slu := s.slu } = s ∧ s.Noticed u))

/-- LIFTED on a hook in use, by its Occupancy: a released key is TAKEN and its step carried, a held key is a forced lift
and MISSING unless its step had lapsed, an unowned key leaves its hook EMPTY, and an EMPTY hook is a sensor fault, as
SENSOR_FAULT is on any hook in use. On the CarrySlot of a carry both change nothing; on its spare slot both are a sensor
fault, and the carry stays open. -/
def Obligations.LiftedAndSensorFault : Prop :=
  ∀ (s : State) (sl : Slot), s.takesCabinet = true →
    let hunting : State := { s with kci := { s.kci with receiver := .hunting } }
    let keyed (n : TicketNo) (k : KeyPlace) : CustodyTable :=
      { s.ct with tickets := s.ct.tickets.map fun y => if y.number = n then { y with key := k } else y }
    let faulted (u : State) (h : HookNo) : Prop :=
      u.kci = { hunting.kci with hooks := s.kci.hooks.set h { s.hook h with faulty := true } } ∧
      (u.alert .hookFault).set = true ∧ (u.alert .hookFault).subject = some (.hook h) ∧
      s.SameAlertsBut u .hookFault ∧ { u with kci := s.kci, au := s.au, slu := s.slu } = s ∧ s.Noticed u
    (s.slotOwner sl = .unmapped ∨ (∃ h, s.slotOwner sl = .carrySlot h) →
      exec (.lifted sl) s = .next hunting ∧ exec (.sensorFault sl) s = .next hunting) ∧
    (∀ h, s.slotOwner sl = .carrySpare h →
      (∃ u, exec (.lifted sl) s = .next u ∧ faulted u h) ∧ ∃ u, exec (.sensorFault sl) s = .next u ∧ faulted u h) ∧
    ∀ h, s.slotOwner sl = .hook h →
      let k := s.hook h
      let emptied (u : State) : Prop :=
        u.kci.hooks = s.kci.hooks.set h { k with occ := .empty, openForRemoval := false, windowLeft := 0 } ∧
        u.kci.subst = s.kci.subst ∧ u.kci.latch = s.kci.latch ∧ u.sa = s.sa ∧ u.fc = s.fc ∧ u.tb = s.tb ∧
        u.mc = s.mc ∧ s.Noticed u ∧ s.SameOuter u
      (k.retired = true → exec (.lifted sl) s = .next hunting ∧ exec (.sensorFault sl) s = .next hunting) ∧
      (k.retired = false → ∃ u, exec (.sensorFault sl) s = .next u ∧ faulted u h) ∧
      (k.retired = false → k.occ = .empty → ∃ u, exec (.lifted sl) s = .next u ∧ faulted u h) ∧
      (∀ n t r q st, k.retired = false → k.occ = .released n → s.ticket? n = some t → t.key ≠ .missing →
        s.runOf? n = some (r, q) → q.steps[q.currentStep]? = some st → st.ticket = n →
        ∃ u, exec (.lifted sl) s = .next u ∧ emptied u ∧ u.au = s.au ∧
          u.ticket? n = some { t with key := .taken, state := if st.role = .blocker then .relocating else .outbound } ∧
          (∀ m, m ≠ n → u.ticket? m = s.ticket? m) ∧
          u.run? r = some { q with
            steps := q.steps.set q.currentStep { st with state := .carried, withheld := none }, committed := true } ∧
          (u.da.runners.get r).duty = .committed ∧ u.da.queue = s.da.queue) ∧
      (∀ n, k.retired = false → k.occ = .holding n → s.currentIs n .lapsed = false →
        ∃ u, exec (.lifted sl) s = .next u ∧ emptied u ∧ u.ct = keyed n .missing ∧ u.da = s.da ∧
          (u.alert .forcedLift).set = true ∧ (u.alert .forcedLift).subject = some (.ticket n)) ∧
      (∀ n t r q st, k.retired = false → k.occ = .holding n → s.ticket? n = some t → t.key ≠ .missing →
        s.runOf? n = some (r, q) → q.steps[q.currentStep]? = some st → st.ticket = n → st.state = .lapsed →
        ∃ u, exec (.lifted sl) s = .next u ∧ emptied u ∧
          u.ticket? n = some { t with key := .taken, state := if st.role = .blocker then .relocating else .outbound } ∧
          (u.alert .forcedLift).set = true ∧ (u.alert .forcedLift).subject = some (.ticket n) ∧
          u.run? r = some { q with
            steps := q.steps.set q.currentStep { st with state := .carried, withheld := none }, committed := true }) ∧
      (k.retired = false → k.occ = .unverified ∨ k.occ = .stray →
        ∃ u, exec (.lifted sl) s = .next u ∧ emptied u ∧ u.ct = s.ct ∧ u.da = s.da ∧
          (k.openForRemoval = true → u.au = s.au) ∧
          (k.openForRemoval = false →
            (u.alert .forcedLift).set = true ∧ (u.alert .forcedLift).subject = some (.hook h)))

/-- BANK_STATE is discarded unless it comes in RECOVERY, names the awaited bank and has a word for each slot present; a
frame of another length leaves the receiver hunting (assumption 22), and presence bits above the 34 slots are
disregarded (assumption 16). Taken, each slot is reconciled with the hook it belongs to by the rows of R178: an EMPTY
hook takes a present key as if hung, a HOLDING hook whose slot is absent, unreadable or another's loses its key with
RECOVERY_MISMATCH, an unowned key that is absent leaves its hook EMPTY, a carry closes on its spare slot; unmapped slots,
CarrySlots and Retired hooks are disregarded. The scan moves on to the next bank or, after bank 15, into SERVICE, with
ScanWaited 0 (assumption 21). -/
def Obligations.BankStateReconcilesItsBank : Prop :=
  ∀ (s : State) (bank : Byte) (pr : BitVec 40) (ws : List (BitVec 24)), s.takesCabinet = true →
    let sized := ws.length = ((List.finRange 34).filter fun i => pr.getLsbD i.val).length
    (¬ sized ∨ s.mc.mode ≠ .recovery ∨ s.mc.scanBank = none ∨
        (∃ b, s.mc.scanBank = some b ∧ bank.toNat ≠ b.val) →
      exec (.bankState bank pr ws) s = .next { s with kci := { s.kci with receiver := .hunting } }) ∧
    ∀ b, sized → s.mc.mode = .recovery → s.mc.scanBank = some b → bank.toNat = b.val → s.unstaffed = true →
      s.SubstLaw →
      let word (i : Fin 34) : Option (BitVec 22) :=
        if pr.getLsbD i.val then
          ws[((List.finRange 34).filter fun j => j.val < i.val && pr.getLsbD j.val).length]?.map (·.setWidth 22)
        else none
      let elsewhere (i : Fin 34) (n : TicketNo) : Prop := ∃ j w, j ≠ i ∧ word j = some w ∧ decodeTag w = some n
      ∃ u, exec (.bankState bank pr ws) s = .next u ∧
        (∀ b', b'.val = b.val + 1 → u.mc = { s.mc with scanBank := some b', scanWaited := 0 } ∧
          ∃ cs, u.kci.commands = cs ++ [.scan b']) ∧
        (b = 15 → u.mc = { s.mc with scanBank := none, scanWaited := 0, mode := .service }) ∧
        (∀ h, hookBank h ≠ b → u.hook h = s.hook h) ∧ u.kci.subst = s.kci.subst ∧
        ((∀ i w, word i = some w → tagClass w = .clean) → u.kci.latch = s.kci.latch) ∧
        (∀ i h, s.slotOwner ⟨b, i⟩ = .hook h →
          let k := s.hook h
          let became (o : Occupancy) : Prop := u.hook h = { k with occ := o }
          let set (f : AlertFlag) : Prop := (u.alert f).set = true
          let lost (n : TicketNo) (o : Occupancy) : Prop :=
            became o ∧ set .recoveryMismatch ∧
              ∀ t, s.ticket? n = some t → ¬ elsewhere i n → (u.ticket? n).map Ticket.key = some .missing
          (k.retired = true → u.hook h = k) ∧
          (k.retired = false →
            (k.occ = .empty → word i = none → u.hook h = k) ∧
            (∀ w, k.occ = .empty → word i = some w →
              (decodeTag w = none → became .unverified ∧ set .tagUnreadable) ∧
              ∀ n, decodeTag w = some n →
                ((∀ t, s.ticket? n = some t → t.state = .outbound ∨ t.state = .staged) →
                  became .stray ∧ set .strayKey) ∧
                ∀ t, s.ticket? n = some t → t.key.isOnHook = false → t.state ≠ .outbound → t.state ≠ .staged →
                  (∀ g, (s.hook g).occ.ticket? ≠ some n) → ¬ elsewhere i n →
                  became (.holding n) ∧ (u.ticket? n).map Ticket.key = some (.onHook h)) ∧
            (∀ n, k.occ = .holding n →
              (word i = none → lost n .empty) ∧
              ∀ w, word i = some w →
                (decodeTag w = some n → u.hook h = k) ∧ (decodeTag w = none → lost n .unverified) ∧
                ∀ m, decodeTag w = some m → m ≠ n → lost n .stray) ∧
            (k.occ = .unverified ∨ k.occ = .stray →
              (word i = none → u.hook h = { k with occ := .empty, openForRemoval := false, windowLeft := 0 }) ∧
              ((word i).isSome = true → u.hook h = k)))) ∧
        (∀ i h n c, s.slotOwner ⟨b, i⟩ = .carrySpare h → (s.hook h).occ = .awaitRehang n c →
          let became (o : Occupancy) : Prop := u.hook h = { s.hook h with occ := o }
          (word i = none → u.hook h = s.hook h) ∧
          ∀ w, word i = some w →
            (decodeTag w = some n → became (.holding n)) ∧
            (decodeTag w = none → became .unverified ∧ (u.alert .tagUnreadable).set = true) ∧
            ∀ m, decodeTag w = some m → m ≠ n → became .stray ∧ (u.alert .strayKey).set = true) ∧
        u.da.runners = s.da.runners ∧ u.da.runs = s.da.runs ∧ u.fc = s.fc ∧ u.tb = s.tb ∧
        u.sa.zones = s.sa.zones ∧ s.Noticed u ∧ s.SameOuter u
end

