-- ==== Sys2Proof/Laws/Table.lean ====
section
/-! SUPPORT. Reading and writing tables: what is written is read back, and every other record is as it was. -/

namespace Sys2Proof

variable {n : Nat} {α β : Type}

/-- A record is the entry of the list at its index. -/
theorem Table.get_eq (t : Table n α) (i : Fin n) : t.get i = t.list[i.val]'(t.size.symm ▸ i.isLt) := rfl

/-- Two tables with the same records at every index are equal. -/
theorem Table.ext_get {t u : Table n α} (h : ∀ i, t.get i = u.get i) : t = u := by
  obtain ⟨l, hl⟩ := t
  obtain ⟨m, hm⟩ := u
  congr
  apply List.ext_getElem (hl.trans hm.symm)
  intro i h1 h2
  simpa [Table.get_eq] using h ⟨i, hl ▸ h1⟩

/-- The record just written. -/
@[simp] theorem Table.get_set_self (t : Table n α) (i : Fin n) (x : α) : (t.set i x).get i = x := by
  simp [Table.get_eq, Table.set]

/-- The record at another index. -/
theorem Table.get_set_ne (t : Table n α) {i j : Fin n} (x : α) (h : j ≠ i) : (t.set i x).get j = t.get j := by
  have : i.val ≠ j.val := fun e => h (Fin.ext e.symm)
  simp [Table.get_eq, Table.set, List.getElem_set_ne this]

/-- Any record after a write. -/
theorem Table.get_set (t : Table n α) (i j : Fin n) (x : α) :
    (t.set i x).get j = if j = i then x else t.get j := by
  by_cases h : j = i
  · subst h; simp
  · simp [h, Table.get_set_ne t x h]

/-- A record of a mapped table. -/
@[simp] theorem Table.get_map (f : α → β) (t : Table n α) (i : Fin n) : (t.map f).get i = f (t.get i) := by
  simp [Table.get_eq, Table.map]

/-- A record of a table given by a function. -/
@[simp] theorem Table.get_ofFn (f : Fin n → α) (i : Fin n) : (Table.ofFn f).get i = f i := by
  simp [Table.get_eq, Table.ofFn]

/-- A record of a table of one record. -/
@[simp] theorem Table.get_replicate (x : α) (i : Fin n) : (Table.replicate n x).get i = x := by
  simp [Table.get_eq, Table.replicate]

/-- A record written over itself changes nothing. -/
@[simp] theorem Table.set_get_self (t : Table n α) (i : Fin n) : t.set i (t.get i) = t := by
  apply Table.ext_get
  intro j
  rw [Table.get_set]
  split
  · next h => rw [h]
  · rfl

/-- The later of two writes to one record stands. -/
@[simp] theorem Table.set_set (t : Table n α) (i : Fin n) (x y : α) : (t.set i x).set i y = t.set i y := by
  apply Table.ext_get
  intro j
  simp only [Table.get_set]
  split <;> rfl

end Sys2Proof
end

