-- ==== Sys2Proof/Laws/Checks.lean ====
section
/-! SUPPORT. Each law of a state from a check that runs over its tables, for concrete states. -/

namespace Sys2Proof.Machine

/-- A check of every record of a table with its index, in one pass over the list. -/
def checkTable {n : Nat} {α : Type} [NeZero n] (u : Table n α) (p : α → Fin n → Bool) : Bool :=
  u.list.zipIdx.all fun x => p x.1 (Fin.ofNat n x.2)

/-- What a table's check says of one index. -/
theorem of_checkTable {n : Nat} {α : Type} [NeZero n] {u : Table n α} {p : α → Fin n → Bool}
    (h : checkTable u p = true) (i : Fin n) : p (u.get i) i = true := by
  have : (u.get i, i.val) ∈ u.list.zipIdx := by
    rw [List.mem_zipIdx_iff_getElem?, Table.get_eq]
    simp
  simpa using List.all_eq_true.mp h _ this

/-- A check of every index below a small bound. -/
theorem of_checkFin {n : Nat} {p : Fin n → Bool} (h : (List.finRange n).all p = true) (i : Fin n) : p i = true :=
  List.all_eq_true.mp h i (List.mem_finRange i)

/-- The record a number finds, and its number. -/
theorem ticket?_number {s : State} {n : TicketNo} {t : Ticket} (h : s.ticket? n = some t) : t.number = n := by
  simpa using List.find?_some h

/-- The hook-key law, hook by hook and record by record. -/
def State.checkHookKeys (s : State) : Bool :=
  (checkTable s.kci.hooks fun k h => match k.occ.ticket? with
    | some n => (s.ticket? n).any fun t => t.key == .onHook h
    | none => true) &&
  s.ct.tickets.all fun t => match t.key with
    | .onHook h => (s.hook h).occ.ticket? == some t.number
    | _ => true

theorem hookKeyLaw_of {s : State} (h : s.checkHookKeys = true) : s.HookKeyLaw := by
  rw [State.checkHookKeys, Bool.and_eq_true] at h
  intro g n
  constructor
  · intro e
    have := of_checkTable h.1 g
    rw [← State.hook, e] at this
    cases ht : s.ticket? n with
    | none => simp [ht] at this
    | some t => exact ⟨t, rfl, by simpa [ht] using this⟩
  · rintro ⟨t, ht, hk⟩
    have := List.all_eq_true.mp h.2 t (List.mem_of_find?_eq_some ht)
    rw [hk] at this
    simpa [ticket?_number ht] using this

/-- The slots that the hook map asks to be unlatched (R62). -/
def State.unlatchedSlots (s : State) : List Slot :=
  s.kci.hooks.list.zipIdx.flatMap fun x =>
    match x.1.occ with
    | .released _ => [s.hookSlot (Fin.ofNat 512 x.2)]
    | .awaitRehang _ c => [⟨hookBank (Fin.ofNat 512 x.2), c⟩, s.hookSlot (Fin.ofNat 512 x.2)]
    | _ => if x.1.openForRemoval then [s.hookSlot (Fin.ofNat 512 x.2)] else []

/-- The commanded-latch law, slot by slot, hook by hook and command by command. -/
def State.checkLatches (s : State) : Bool :=
  (let open_ := s.unlatchedSlots
   checkTable s.kci.latched fun l i => (!l) == open_.any fun sl => slotIdx sl == i) &&
  (checkTable s.kci.hooks fun k _ => !k.openForRemoval || k.occ == .unverified || k.occ == .stray) &&
  s.kci.commands.all fun c => match c with
    | .latch sl => s.kci.latched.get (slotIdx sl)
    | .unlatch sl => !s.kci.latched.get (slotIdx sl)
    | .scan _ => true

/-- Slots are numbered apart. -/
theorem slotIdx_inj {a b : Slot} : slotIdx a = slotIdx b ↔ a = b := by
  constructor
  · intro h
    have h := congrArg Fin.val h
    have := a.num.isLt
    have := b.num.isLt
    simp only [slotIdx] at h
    have h1 : a.bank.val = b.bank.val := by omega
    have h2 : a.num.val = b.num.val := by omega
    cases a; cases b
    simp_all [Fin.ext_iff]
  · rintro rfl; rfl

/-- The slots asked to be unlatched, hook by hook. -/
theorem mem_unlatchedSlots {s : State} {sl : Slot} :
    sl ∈ s.unlatchedSlots ↔ ∃ h, sl ∈ (match (s.hook h).occ with
      | .released _ => [s.hookSlot h]
      | .awaitRehang _ c => [⟨hookBank h, c⟩, s.hookSlot h]
      | _ => if (s.hook h).openForRemoval then [s.hookSlot h] else []) := by
  have hm : ∀ (k : Hook) (i : Nat), (k, i) ∈ s.kci.hooks.list.zipIdx ↔ ∃ h : HookNo, h.val = i ∧ s.hook h = k := by
    intro k i
    rw [List.mem_zipIdx_iff_getElem?, List.getElem?_eq_some_iff]
    constructor
    · rintro ⟨hi, e⟩
      exact ⟨⟨i, s.kci.hooks.size ▸ hi⟩, rfl, e⟩
    · rintro ⟨h, rfl, e⟩
      exact ⟨s.kci.hooks.size.symm ▸ h.isLt, e⟩
  rw [State.unlatchedSlots, List.mem_flatMap]
  constructor
  · rintro ⟨⟨k, i⟩, hk, e⟩
    obtain ⟨h, rfl, rfl⟩ := (hm k i).mp hk
    exact ⟨h, by simpa using e⟩
  · rintro ⟨h, e⟩
    exact ⟨(s.hook h, h.val), (hm _ _).mpr ⟨h, rfl, rfl⟩, by simpa using e⟩

theorem latchLaw_of {s : State} (h : s.checkLatches = true) : s.LatchLaw := by
  simp only [State.checkLatches, Bool.and_eq_true] at h
  obtain ⟨⟨h1, h2⟩, h3⟩ := h
  have ho : ∀ g, (s.hook g).openForRemoval = true → (s.hook g).occ = .unverified ∨ (s.hook g).occ = .stray := by
    intro g e
    simpa [State.hook, show (s.kci.hooks.get g).openForRemoval = true from e] using of_checkTable h2 g
  refine ⟨fun sl => ?_, ho, fun sl => ⟨fun e => ?_, fun e => ?_⟩⟩
  · have := of_checkTable h1 (slotIdx sl)
    have e : s.kci.latched.get (slotIdx sl) = false ↔ sl ∈ s.unlatchedSlots := by
      rw [beq_iff_eq] at this
      rw [← Bool.not_eq_true', this]
      simp [slotIdx_inj]
    rw [e, mem_unlatchedSlots]
    apply exists_congr
    intro g
    have := ho g
    split <;> rename_i c <;> simp_all <;> grind
  · simpa using List.all_eq_true.mp h3 _ e
  · simpa using List.all_eq_true.mp h3 _ e

/-- The runner-run law, runner by runner. -/
def State.checkRunners (s : State) : Bool :=
  (List.finRange 32).all fun r =>
    let d := (s.da.runners.get r).duty
    ((d == .assigned || d == .committed) == (s.run? r).isSome) &&
      (s.run? r).all fun q => (d == .committed) == q.committed

theorem runnerRunLaw_of {s : State} (h : s.checkRunners = true) : s.RunnerRunLaw := by
  intro r
  have := of_checkFin h r
  rw [Bool.and_eq_true, beq_iff_eq] at this
  refine ⟨by rw [← this.1]; simp, fun q e => ?_⟩
  have := this.2
  rw [e, Option.all_some, beq_iff_eq] at this
  rw [← this]; simp

/-- The claims of a ticket by its State (R18). -/
def State.checkClaims (s : State) (t : Ticket) : Bool :=
  let held (f : Option SpaceNo) : Bool := f.any fun sp => s.spaceRec sp == .held t.number
  let occupied (f : Option SpaceNo) : Bool := f.any fun sp => s.spaceRec sp == .occupied t.number
  (t.formerState.isSome == (t.state == .unconfirmed)) &&
    match t.state with
    | .awaitingSpace | .staged => t.space.isNone && t.nextSpace.isNone
    | .inbound | .returning => held t.space && t.nextSpace.isNone
    | .outbound => occupied t.space && t.nextSpace.isNone
    | .parked | .relocating => occupied t.space && (t.nextSpace.isNone || held t.nextSpace)
    | .unconfirmed => t.nextSpace.isNone || (held t.nextSpace && t.formerState == some .relocating)

theorem any_held {s : State} {n : TicketNo} {f : Option SpaceNo} {r : TicketNo → SpaceRec} :
    (f.any fun sp => s.spaceRec sp == r n) = true ↔ ∃ sp, f = some sp ∧ s.spaceRec sp = r n := by
  cases f <;> simp

theorem claimsFit_of {s : State} {t : Ticket} (h : s.checkClaims t = true) : s.claimsFit t := by
  unfold State.checkClaims at h
  unfold State.claimsFit
  rw [Bool.and_eq_true, beq_iff_eq] at h
  refine ⟨by rw [h.1]; simp, ?_⟩
  have := h.2
  cases e : t.state <;> simp only [e, Bool.and_eq_true, Bool.or_eq_true, Option.isNone_iff_eq_none] at this ⊢ <;>
    (try simp only [any_held, beq_iff_eq] at this) <;> exact this

/-- The space-claim law, space by space and record by record. -/
def State.checkSpaces (s : State) : Bool :=
  (checkTable s.sa.spaces fun r sp => match r.ticket? with
    | some n => (s.ticket? n).any fun t => t.space == some sp || t.nextSpace == some sp
    | none => true) &&
  (s.ct.tickets.all fun t =>
    t.space.all (fun sp => (s.spaceRec sp).ticket? == some t.number) &&
      t.nextSpace.all (fun sp => (s.spaceRec sp).ticket? == some t.number) &&
      t.space.all (fun sp => t.nextSpace != some sp) && s.checkClaims t) &&
  (s.sa.lanes.all fun l => l.front.val + l.depth ≤ 1024) && (s.mc.mode != .setup || s.ct.tickets.isEmpty)

theorem claimLaw_of {s : State} (h : s.checkSpaces = true) : s.ClaimLaw := by
  simp only [State.checkSpaces, Bool.and_eq_true] at h
  obtain ⟨⟨⟨h1, h2⟩, h3⟩, h4⟩ := h
  have ht := fun t e => List.all_eq_true.mp h2 t e
  refine ⟨fun sp n => ⟨fun e => ?_, ?_⟩, fun t e => ⟨fun sp e1 e2 => ?_, ?_⟩, ?_, fun _ e => ?_⟩
  · have := of_checkTable h1 sp
    rw [← State.spaceRec, e] at this
    cases hx : s.ticket? n with
    | none => simp [hx] at this
    | some t => exact ⟨t, rfl, by simpa [hx] using this⟩
  · rintro ⟨t, hx, e⟩
    have := ht t (List.mem_of_find?_eq_some hx)
    rw [← ticket?_number hx]
    rcases e with e | e <;> simp [e] at this
    · exact this.1.1.1
    · exact this.1.1.2
  · simpa [e1, e2] using ht t e
  · exact claimsFit_of (by have := ht t e; simp only [Bool.and_eq_true] at this; exact this.2)
  · simpa using h3
  · simpa [e] using h4

/-- The wait-queue law, place by place and record by record. -/
def State.checkWaits (s : State) : Bool :=
  decide s.sa.waitQueue.Nodup &&
    (s.sa.waitQueue.all fun n => (s.ticket? n).any fun t => t.state == .awaitingSpace) &&
    (s.ct.tickets.all fun t => t.state != .awaitingSpace || s.sa.waitQueue.contains t.number) &&
    ((s.alert .spaceWait).set == !s.sa.waitQueue.isEmpty)

theorem waitLaw_of {s : State} (h : s.checkWaits = true) : s.WaitLaw := by
  simp only [State.checkWaits, Bool.and_eq_true, decide_eq_true_eq] at h
  obtain ⟨⟨⟨h1, h2⟩, h3⟩, h4⟩ := h
  refine ⟨h1, fun n => ⟨fun e => ?_, ?_⟩, fun _ => ?_⟩
  · have := List.all_eq_true.mp h2 n e
    cases hx : s.ticket? n with
    | none => simp [hx] at this
    | some t => exact ⟨t, rfl, by simpa [hx] using this⟩
  · rintro ⟨t, hx, e⟩
    simpa [e, ticket?_number hx] using List.all_eq_true.mp h3 t (List.mem_of_find?_eq_some hx)
  · rw [beq_iff_eq] at h4
    rw [h4]; simp

/-- The ticket of a step stands as the step says. -/
def RunStep.checkTicket (st : RunStep) (q : Run) (t : Ticket) : Bool :=
  if q.kind = .return_ then t.state == .returning || t.state == .awaitingSpace || t.state == .inbound
  else
    t.state == (if st.state = .carried then (if st.role = .blocker then .relocating else .outbound) else .parked) &&
      (!(st.role == .target || st.state == .done) || t.nextSpace.isNone)

theorem ticketFits_of {st : RunStep} {q : Run} {t : Ticket} (h : st.checkTicket q t = true) : st.ticketFits q t := by
  unfold RunStep.checkTicket at h
  unfold RunStep.ticketFits
  split <;> rename_i e <;> simp_all
  · tauto
  · rintro (x | x) <;> simp_all

/-- A run's steps in order, and its tickets, step by step. -/
def State.checkRun (s : State) (r : RunnerNo) (q : Run) : Bool :=
  decide (q.steps.map RunStep.ticket).Nodup && decide (q.currentStep < q.steps.length) &&
    (q.kind != .return_ || (q.steps.length == 1 && q.committed && q.steps.all fun st => st.state == .carried)) &&
    (List.range q.steps.length).all fun i => (q.steps[i]?).all fun st =>
      ((st.role == .target) == (i + 1 == q.steps.length)) && (st.role != .target || st.ticket == q.target) &&
        (!decide (i < q.currentStep) || st.state == .done) && (!decide (q.currentStep < i) || st.state == .waiting) &&
        (i != q.currentStep || st.state == .released || st.state == .lapsed || st.state == .carried) &&
        (q.committed || (q.currentStep == 0 && st.state != .carried)) &&
        (st.state != .released || st.hook.any fun h => (s.hook h).occ == .released st.ticket) &&
        (s.ticket? st.ticket).any fun t => t.run == some r && st.checkTicket q t

theorem runFits_of {s : State} {r : RunnerNo} {q : Run} (h : s.checkRun r q = true) : s.RunFits r q := by
  simp only [State.checkRun, Bool.and_eq_true, decide_eq_true_eq] at h
  obtain ⟨⟨⟨h1, h2⟩, h3⟩, h4⟩ := h
  refine ⟨h1, h2, fun e => by simpa [e, and_assoc] using h3, fun i st e => ?_⟩
  obtain ⟨hi, -⟩ := List.getElem?_eq_some_iff.mp e
  have := List.all_eq_true.mp h4 i (List.mem_range.mpr hi)
  rw [e, Option.all_some] at this
  simp only [Bool.and_eq_true] at this
  obtain ⟨⟨⟨⟨⟨⟨⟨a, b⟩, c⟩, d⟩, f⟩, g⟩, k⟩, l⟩ := this
  refine ⟨?_, ?_, ?_, ?_, ?_, ?_, ?_, ?_⟩
  · rw [beq_iff_eq] at a
    constructor
    · intro x; simpa [x] using a
    · intro x; simpa [x] using a
  · intro x; simpa [x] using b
  · intro x; simpa [x] using c
  · intro x; simpa [x] using d
  · intro x; simpa [x, or_assoc] using f
  · intro x; simpa [x] using g
  · intro x
    rw [x] at k
    cases hk : st.hook <;> simp [hk] at k
    exact ⟨_, rfl, k⟩
  · cases hx : s.ticket? st.ticket with
    | none => simp [hx] at l
    | some t =>
      simp only [hx, Option.any_some, Bool.and_eq_true, beq_iff_eq] at l
      exact ⟨t, rfl, l.1, ticketFits_of l.2⟩

/-- The law of runs, runner by runner, record by record and hook by hook. -/
def State.checkRuns (s : State) : Bool :=
  ((List.finRange 32).all fun r => (s.run? r).all (s.checkRun r)) &&
  (s.ct.tickets.all fun t =>
    (t.run.all fun r => (s.run? r).any fun q => (q.steps.map RunStep.ticket).contains t.number) &&
      (t.nextSpace.isNone || t.run.isSome || t.state == .unconfirmed) &&
      (!(t.state == .staged || t.state == .unconfirmed) || t.run.isNone)) &&
  checkTable s.kci.hooks fun k _ => match k.occ with
    | .released n => s.currentIs n .released
    | _ => true

theorem runLaw_of {s : State} (h : s.checkRuns = true) : s.RunLaw := by
  simp only [State.checkRuns, Bool.and_eq_true] at h
  obtain ⟨⟨h1, h2⟩, h3⟩ := h
  refine ⟨fun r q e => ?_, fun _ => ⟨fun t e => ?_, fun g n e => ?_⟩⟩
  · have := of_checkFin h1 r
    rw [e, Option.all_some] at this
    exact runFits_of this
  · have := List.all_eq_true.mp h2 t e
    simp only [Bool.and_eq_true] at this
    obtain ⟨⟨a, b⟩, c⟩ := this
    refine ⟨fun r x => ?_, fun x => ?_, fun x => ?_⟩
    · rw [x, Option.all_some] at a
      cases hq : s.run? r with
      | none => simp [hq] at a
      | some q => exact ⟨q, rfl, by simpa [hq] using a⟩
    · cases hn : t.nextSpace <;> simp_all
    · rcases x with x | x <;> simpa [x] using c
  · have := of_checkTable h3 g
    rw [← State.hook, e] at this
    exact this

/-- The law of a zone table, record by record. -/
def checkZones (z : Table 8 (Option ZoneRec)) : Bool :=
  (List.finRange 8).all fun i => (z.get i).all fun a =>
    decide (a.size ∈ [16, 32, 64, 128, 256, 512]) && decide (a.depth ∈ [1, 2, 4]) && decide (1 ≤ a.walk) &&
      decide (a.walk ≤ 40) && decide (a.base % a.size = 0) && decide (a.base + a.size ≤ 1024) &&
      (List.finRange 8).all fun j => i == j || (z.get j).all fun b =>
        decide (a.base + a.size ≤ b.base) || decide (b.base + b.size ≤ a.base)

theorem zonesApart_of {z : Table 8 (Option ZoneRec)} (h : checkZones z = true) : ZonesApart z := by
  have k : ∀ i a, z.get i = some a → _ := fun i a e => by
    have := of_checkFin h i
    rw [e, Option.all_some] at this
    simp only [Bool.and_eq_true, decide_eq_true_eq] at this
    exact this
  refine ⟨fun i a e => ?_, fun i j a b ea eb hij => ?_⟩
  · obtain ⟨⟨⟨⟨⟨⟨a1, a2⟩, a3⟩, a4⟩, a5⟩, a6⟩, -⟩ := k i a e
    exact ⟨a1, a2, a3, a4, a5, a6⟩
  · have := of_checkFin (k i a ea).2 j
    simpa [hij, eb] using this

/-- The law of zones and lanes, lane by lane. -/
def State.checkLanes (s : State) : Bool :=
  checkZones s.mc.working.zones && s.mc.store.all (fun c => checkZones c.zones) &&
    checkZones (s.sa.zones.map fun z => z.map Zone.toZoneRec) &&
    decide (s.sa.lanes.Pairwise fun a b => a.front.val + a.depth ≤ b.front.val) &&
    s.sa.lanes.all fun l => decide (1 ≤ l.depth) && (List.finRange 8).any fun z => (s.sa.zones.get z).any fun r =>
      decide (r.depth = l.depth) && decide (r.base ≤ l.front.val) && decide (l.front.val + l.depth ≤ r.base + r.size)

theorem zoneLaw_of {s : State} (h : s.checkLanes = true) : s.ZoneLaw := by
  simp only [State.checkLanes, Bool.and_eq_true, decide_eq_true_eq] at h
  obtain ⟨⟨⟨⟨h1, h2⟩, h3⟩, h4⟩, h5⟩ := h
  refine ⟨zonesApart_of h1, fun c e => ?_, zonesApart_of h3, h4, fun l e => ?_⟩
  · rw [e, Option.all_some] at h2
    exact zonesApart_of h2
  · have := List.all_eq_true.mp h5 l e
    simp only [Bool.and_eq_true, decide_eq_true_eq, List.any_eq_true, List.mem_finRange, true_and] at this
    obtain ⟨a, z, hz⟩ := this
    refine ⟨a, z, ?_⟩
    cases hx : s.sa.zones.get z with
    | none => simp [hx] at hz
    | some r => exact ⟨r, rfl, by simpa [hx, and_assoc] using hz⟩

/-- The substitution law, bank by bank and hook by hook. -/
def State.checkSubsts (s : State) : Bool :=
  ((List.finRange 16).all fun b =>
    !(s.entry b 0).active || !(s.entry b 1).active || (s.entry b 0).position != (s.entry b 1).position) &&
  checkTable s.kci.hooks fun k h =>
    (!k.retired || (k.occ == .empty && (s.activeEntry? h).isNone)) &&
      match k.occ with
      | .awaitRehang _ c => c == (primarySlot h).num && (s.activeEntry? h).isSome
      | _ => true

theorem substLaw_of {s : State} (h : s.checkSubsts = true) : s.SubstLaw := by
  simp only [State.checkSubsts, Bool.and_eq_true] at h
  refine ⟨fun b e1 e2 => ?_, fun g e => ?_, fun g n c e => ?_⟩
  · simpa [e1, e2] using of_checkFin h.1 b
  · have := of_checkTable h.2 g
    rw [← State.hook] at this
    simp only [Bool.and_eq_true] at this
    simpa [e] using this.1
  · have := of_checkTable h.2 g
    rw [← State.hook] at this
    simp only [Bool.and_eq_true] at this
    simpa [e] using this.2

end Sys2Proof.Machine
end

