-- ==== Sys2Proof/Laws/State.lean ====
section
/-! SUPPORT. What the elementary updates leave unchanged: one lemma for each field of each update, true by rfl. -/

namespace Sys2Proof.Machine

variable (w : Work)

@[simp] theorem Work.trigger_pending : (w.trigger).pending = w.pending := rfl
@[simp] theorem Work.trigger_ct : (w.trigger).ct = w.ct := rfl
@[simp] theorem Work.trigger_sa : (w.trigger).sa = w.sa := rfl
@[simp] theorem Work.trigger_kci : (w.trigger).kci = w.kci := rfl
@[simp] theorem Work.trigger_da : (w.trigger).da = w.da := rfl
@[simp] theorem Work.trigger_fc : (w.trigger).fc = w.fc := rfl
@[simp] theorem Work.trigger_tb : (w.trigger).tb = w.tb := rfl
@[simp] theorem Work.trigger_au : (w.trigger).au = w.au := rfl
@[simp] theorem Work.trigger_mc : (w.trigger).mc = w.mc := rfl
@[simp] theorem Work.trigger_slu : (w.trigger).slu = w.slu := rfl
@[simp] theorem Work.trigger_powered : (w.trigger).powered = w.powered := rfl
@[simp] theorem Work.trigger_held : (w.trigger).held = w.held := rfl
@[simp] theorem Work.trigger_choices : (w.trigger).choices = w.choices := rfl
@[simp] theorem Work.trigger_out : (w.trigger).out = w.out := rfl
@[simp] theorem Work.trigger_passDue : (w.trigger).passDue = w.passDue := rfl
@[simp] theorem Work.trigger_preempted : (w.trigger).preempted = w.preempted := rfl
@[simp] theorem Work.trigger_considered : (w.trigger).considered = w.considered := rfl

@[simp] theorem Work.triggerIf_pending (b : Bool) : (w.triggerIf b).pending = w.pending := rfl
@[simp] theorem Work.triggerIf_ct (b : Bool) : (w.triggerIf b).ct = w.ct := rfl
@[simp] theorem Work.triggerIf_sa (b : Bool) : (w.triggerIf b).sa = w.sa := rfl
@[simp] theorem Work.triggerIf_kci (b : Bool) : (w.triggerIf b).kci = w.kci := rfl
@[simp] theorem Work.triggerIf_da (b : Bool) : (w.triggerIf b).da = w.da := rfl
@[simp] theorem Work.triggerIf_fc (b : Bool) : (w.triggerIf b).fc = w.fc := rfl
@[simp] theorem Work.triggerIf_tb (b : Bool) : (w.triggerIf b).tb = w.tb := rfl
@[simp] theorem Work.triggerIf_au (b : Bool) : (w.triggerIf b).au = w.au := rfl
@[simp] theorem Work.triggerIf_mc (b : Bool) : (w.triggerIf b).mc = w.mc := rfl
@[simp] theorem Work.triggerIf_slu (b : Bool) : (w.triggerIf b).slu = w.slu := rfl
@[simp] theorem Work.triggerIf_powered (b : Bool) : (w.triggerIf b).powered = w.powered := rfl
@[simp] theorem Work.triggerIf_held (b : Bool) : (w.triggerIf b).held = w.held := rfl
@[simp] theorem Work.triggerIf_choices (b : Bool) : (w.triggerIf b).choices = w.choices := rfl
@[simp] theorem Work.triggerIf_out (b : Bool) : (w.triggerIf b).out = w.out := rfl
@[simp] theorem Work.triggerIf_passDue (b : Bool) : (w.triggerIf b).passDue = w.passDue := rfl
@[simp] theorem Work.triggerIf_preempted (b : Bool) : (w.triggerIf b).preempted = w.preempted := rfl
@[simp] theorem Work.triggerIf_considered (b : Bool) : (w.triggerIf b).considered = w.considered := rfl

@[simp] theorem Work.needPass_pending : (w.needPass).pending = w.pending := rfl
@[simp] theorem Work.needPass_ct : (w.needPass).ct = w.ct := rfl
@[simp] theorem Work.needPass_sa : (w.needPass).sa = w.sa := rfl
@[simp] theorem Work.needPass_kci : (w.needPass).kci = w.kci := rfl
@[simp] theorem Work.needPass_da : (w.needPass).da = w.da := rfl
@[simp] theorem Work.needPass_fc : (w.needPass).fc = w.fc := rfl
@[simp] theorem Work.needPass_tb : (w.needPass).tb = w.tb := rfl
@[simp] theorem Work.needPass_au : (w.needPass).au = w.au := rfl
@[simp] theorem Work.needPass_mc : (w.needPass).mc = w.mc := rfl
@[simp] theorem Work.needPass_slu : (w.needPass).slu = w.slu := rfl
@[simp] theorem Work.needPass_powered : (w.needPass).powered = w.powered := rfl
@[simp] theorem Work.needPass_held : (w.needPass).held = w.held := rfl
@[simp] theorem Work.needPass_choices : (w.needPass).choices = w.choices := rfl
@[simp] theorem Work.needPass_out : (w.needPass).out = w.out := rfl
@[simp] theorem Work.needPass_arbDue : (w.needPass).arbDue = w.arbDue := rfl
@[simp] theorem Work.needPass_preempted : (w.needPass).preempted = w.preempted := rfl
@[simp] theorem Work.needPass_considered : (w.needPass).considered = w.considered := rfl

@[simp] theorem Work.emit_pending (ps : PortSet) (n : Notice) : (w.emit ps n).pending = w.pending := rfl
@[simp] theorem Work.emit_ct (ps : PortSet) (n : Notice) : (w.emit ps n).ct = w.ct := rfl
@[simp] theorem Work.emit_sa (ps : PortSet) (n : Notice) : (w.emit ps n).sa = w.sa := rfl
@[simp] theorem Work.emit_kci (ps : PortSet) (n : Notice) : (w.emit ps n).kci = w.kci := rfl
@[simp] theorem Work.emit_da (ps : PortSet) (n : Notice) : (w.emit ps n).da = w.da := rfl
@[simp] theorem Work.emit_fc (ps : PortSet) (n : Notice) : (w.emit ps n).fc = w.fc := rfl
@[simp] theorem Work.emit_tb (ps : PortSet) (n : Notice) : (w.emit ps n).tb = w.tb := rfl
@[simp] theorem Work.emit_au (ps : PortSet) (n : Notice) : (w.emit ps n).au = w.au := rfl
@[simp] theorem Work.emit_mc (ps : PortSet) (n : Notice) : (w.emit ps n).mc = w.mc := rfl
@[simp] theorem Work.emit_slu (ps : PortSet) (n : Notice) : (w.emit ps n).slu = w.slu := rfl
@[simp] theorem Work.emit_powered (ps : PortSet) (n : Notice) : (w.emit ps n).powered = w.powered := rfl
@[simp] theorem Work.emit_held (ps : PortSet) (n : Notice) : (w.emit ps n).held = w.held := rfl
@[simp] theorem Work.emit_choices (ps : PortSet) (n : Notice) : (w.emit ps n).choices = w.choices := rfl
@[simp] theorem Work.emit_passDue (ps : PortSet) (n : Notice) : (w.emit ps n).passDue = w.passDue := rfl
@[simp] theorem Work.emit_arbDue (ps : PortSet) (n : Notice) : (w.emit ps n).arbDue = w.arbDue := rfl
@[simp] theorem Work.emit_preempted (ps : PortSet) (n : Notice) : (w.emit ps n).preempted = w.preempted := rfl
@[simp] theorem Work.emit_considered (ps : PortSet) (n : Notice) : (w.emit ps n).considered = w.considered := rfl

@[simp] theorem Work.updTicket_pending (n : TicketNo) (f : Ticket → Ticket) : (w.updTicket n f).pending = w.pending := rfl
@[simp] theorem Work.updTicket_sa (n : TicketNo) (f : Ticket → Ticket) : (w.updTicket n f).sa = w.sa := rfl
@[simp] theorem Work.updTicket_kci (n : TicketNo) (f : Ticket → Ticket) : (w.updTicket n f).kci = w.kci := rfl
@[simp] theorem Work.updTicket_da (n : TicketNo) (f : Ticket → Ticket) : (w.updTicket n f).da = w.da := rfl
@[simp] theorem Work.updTicket_fc (n : TicketNo) (f : Ticket → Ticket) : (w.updTicket n f).fc = w.fc := rfl
@[simp] theorem Work.updTicket_tb (n : TicketNo) (f : Ticket → Ticket) : (w.updTicket n f).tb = w.tb := rfl
@[simp] theorem Work.updTicket_au (n : TicketNo) (f : Ticket → Ticket) : (w.updTicket n f).au = w.au := rfl
@[simp] theorem Work.updTicket_mc (n : TicketNo) (f : Ticket → Ticket) : (w.updTicket n f).mc = w.mc := rfl
@[simp] theorem Work.updTicket_slu (n : TicketNo) (f : Ticket → Ticket) : (w.updTicket n f).slu = w.slu := rfl
@[simp] theorem Work.updTicket_powered (n : TicketNo) (f : Ticket → Ticket) : (w.updTicket n f).powered = w.powered := rfl
@[simp] theorem Work.updTicket_held (n : TicketNo) (f : Ticket → Ticket) : (w.updTicket n f).held = w.held := rfl
@[simp] theorem Work.updTicket_choices (n : TicketNo) (f : Ticket → Ticket) : (w.updTicket n f).choices = w.choices := rfl
@[simp] theorem Work.updTicket_out (n : TicketNo) (f : Ticket → Ticket) : (w.updTicket n f).out = w.out := rfl
@[simp] theorem Work.updTicket_passDue (n : TicketNo) (f : Ticket → Ticket) : (w.updTicket n f).passDue = w.passDue := rfl
@[simp] theorem Work.updTicket_arbDue (n : TicketNo) (f : Ticket → Ticket) : (w.updTicket n f).arbDue = w.arbDue := rfl
@[simp] theorem Work.updTicket_preempted (n : TicketNo) (f : Ticket → Ticket) : (w.updTicket n f).preempted = w.preempted := rfl
@[simp] theorem Work.updTicket_considered (n : TicketNo) (f : Ticket → Ticket) : (w.updTicket n f).considered = w.considered := rfl

@[simp] theorem Work.setSpace_pending (sp : SpaceNo) (r : SpaceRec) : (w.setSpace sp r).pending = w.pending := rfl
@[simp] theorem Work.setSpace_ct (sp : SpaceNo) (r : SpaceRec) : (w.setSpace sp r).ct = w.ct := rfl
@[simp] theorem Work.setSpace_kci (sp : SpaceNo) (r : SpaceRec) : (w.setSpace sp r).kci = w.kci := rfl
@[simp] theorem Work.setSpace_da (sp : SpaceNo) (r : SpaceRec) : (w.setSpace sp r).da = w.da := rfl
@[simp] theorem Work.setSpace_fc (sp : SpaceNo) (r : SpaceRec) : (w.setSpace sp r).fc = w.fc := rfl
@[simp] theorem Work.setSpace_tb (sp : SpaceNo) (r : SpaceRec) : (w.setSpace sp r).tb = w.tb := rfl
@[simp] theorem Work.setSpace_au (sp : SpaceNo) (r : SpaceRec) : (w.setSpace sp r).au = w.au := rfl
@[simp] theorem Work.setSpace_mc (sp : SpaceNo) (r : SpaceRec) : (w.setSpace sp r).mc = w.mc := rfl
@[simp] theorem Work.setSpace_slu (sp : SpaceNo) (r : SpaceRec) : (w.setSpace sp r).slu = w.slu := rfl
@[simp] theorem Work.setSpace_powered (sp : SpaceNo) (r : SpaceRec) : (w.setSpace sp r).powered = w.powered := rfl
@[simp] theorem Work.setSpace_held (sp : SpaceNo) (r : SpaceRec) : (w.setSpace sp r).held = w.held := rfl
@[simp] theorem Work.setSpace_choices (sp : SpaceNo) (r : SpaceRec) : (w.setSpace sp r).choices = w.choices := rfl
@[simp] theorem Work.setSpace_out (sp : SpaceNo) (r : SpaceRec) : (w.setSpace sp r).out = w.out := rfl
@[simp] theorem Work.setSpace_passDue (sp : SpaceNo) (r : SpaceRec) : (w.setSpace sp r).passDue = w.passDue := rfl
@[simp] theorem Work.setSpace_arbDue (sp : SpaceNo) (r : SpaceRec) : (w.setSpace sp r).arbDue = w.arbDue := rfl
@[simp] theorem Work.setSpace_preempted (sp : SpaceNo) (r : SpaceRec) : (w.setSpace sp r).preempted = w.preempted := rfl
@[simp] theorem Work.setSpace_considered (sp : SpaceNo) (r : SpaceRec) : (w.setSpace sp r).considered = w.considered := rfl

@[simp] theorem Work.setWaitQueue_pending (q : List TicketNo) : (w.setWaitQueue q).pending = w.pending := rfl
@[simp] theorem Work.setWaitQueue_ct (q : List TicketNo) : (w.setWaitQueue q).ct = w.ct := rfl
@[simp] theorem Work.setWaitQueue_kci (q : List TicketNo) : (w.setWaitQueue q).kci = w.kci := rfl
@[simp] theorem Work.setWaitQueue_da (q : List TicketNo) : (w.setWaitQueue q).da = w.da := rfl
@[simp] theorem Work.setWaitQueue_fc (q : List TicketNo) : (w.setWaitQueue q).fc = w.fc := rfl
@[simp] theorem Work.setWaitQueue_tb (q : List TicketNo) : (w.setWaitQueue q).tb = w.tb := rfl
@[simp] theorem Work.setWaitQueue_au (q : List TicketNo) : (w.setWaitQueue q).au = w.au := rfl
@[simp] theorem Work.setWaitQueue_mc (q : List TicketNo) : (w.setWaitQueue q).mc = w.mc := rfl
@[simp] theorem Work.setWaitQueue_slu (q : List TicketNo) : (w.setWaitQueue q).slu = w.slu := rfl
@[simp] theorem Work.setWaitQueue_powered (q : List TicketNo) : (w.setWaitQueue q).powered = w.powered := rfl
@[simp] theorem Work.setWaitQueue_held (q : List TicketNo) : (w.setWaitQueue q).held = w.held := rfl
@[simp] theorem Work.setWaitQueue_choices (q : List TicketNo) : (w.setWaitQueue q).choices = w.choices := rfl
@[simp] theorem Work.setWaitQueue_out (q : List TicketNo) : (w.setWaitQueue q).out = w.out := rfl
@[simp] theorem Work.setWaitQueue_passDue (q : List TicketNo) : (w.setWaitQueue q).passDue = w.passDue := rfl
@[simp] theorem Work.setWaitQueue_arbDue (q : List TicketNo) : (w.setWaitQueue q).arbDue = w.arbDue := rfl
@[simp] theorem Work.setWaitQueue_preempted (q : List TicketNo) : (w.setWaitQueue q).preempted = w.preempted := rfl
@[simp] theorem Work.setWaitQueue_considered (q : List TicketNo) : (w.setWaitQueue q).considered = w.considered := rfl

@[simp] theorem Work.updHook_pending (h : HookNo) (f : Hook → Hook) : (w.updHook h f).pending = w.pending := rfl
@[simp] theorem Work.updHook_ct (h : HookNo) (f : Hook → Hook) : (w.updHook h f).ct = w.ct := rfl
@[simp] theorem Work.updHook_sa (h : HookNo) (f : Hook → Hook) : (w.updHook h f).sa = w.sa := rfl
@[simp] theorem Work.updHook_da (h : HookNo) (f : Hook → Hook) : (w.updHook h f).da = w.da := rfl
@[simp] theorem Work.updHook_fc (h : HookNo) (f : Hook → Hook) : (w.updHook h f).fc = w.fc := rfl
@[simp] theorem Work.updHook_tb (h : HookNo) (f : Hook → Hook) : (w.updHook h f).tb = w.tb := rfl
@[simp] theorem Work.updHook_au (h : HookNo) (f : Hook → Hook) : (w.updHook h f).au = w.au := rfl
@[simp] theorem Work.updHook_mc (h : HookNo) (f : Hook → Hook) : (w.updHook h f).mc = w.mc := rfl
@[simp] theorem Work.updHook_slu (h : HookNo) (f : Hook → Hook) : (w.updHook h f).slu = w.slu := rfl
@[simp] theorem Work.updHook_powered (h : HookNo) (f : Hook → Hook) : (w.updHook h f).powered = w.powered := rfl
@[simp] theorem Work.updHook_held (h : HookNo) (f : Hook → Hook) : (w.updHook h f).held = w.held := rfl
@[simp] theorem Work.updHook_choices (h : HookNo) (f : Hook → Hook) : (w.updHook h f).choices = w.choices := rfl
@[simp] theorem Work.updHook_out (h : HookNo) (f : Hook → Hook) : (w.updHook h f).out = w.out := rfl
@[simp] theorem Work.updHook_passDue (h : HookNo) (f : Hook → Hook) : (w.updHook h f).passDue = w.passDue := rfl
@[simp] theorem Work.updHook_arbDue (h : HookNo) (f : Hook → Hook) : (w.updHook h f).arbDue = w.arbDue := rfl
@[simp] theorem Work.updHook_preempted (h : HookNo) (f : Hook → Hook) : (w.updHook h f).preempted = w.preempted := rfl
@[simp] theorem Work.updHook_considered (h : HookNo) (f : Hook → Hook) : (w.updHook h f).considered = w.considered := rfl

@[simp] theorem Work.setRun_pending (r : RunnerNo) (x : Option Run) : (w.setRun r x).pending = w.pending := rfl
@[simp] theorem Work.setRun_ct (r : RunnerNo) (x : Option Run) : (w.setRun r x).ct = w.ct := rfl
@[simp] theorem Work.setRun_sa (r : RunnerNo) (x : Option Run) : (w.setRun r x).sa = w.sa := rfl
@[simp] theorem Work.setRun_kci (r : RunnerNo) (x : Option Run) : (w.setRun r x).kci = w.kci := rfl
@[simp] theorem Work.setRun_fc (r : RunnerNo) (x : Option Run) : (w.setRun r x).fc = w.fc := rfl
@[simp] theorem Work.setRun_tb (r : RunnerNo) (x : Option Run) : (w.setRun r x).tb = w.tb := rfl
@[simp] theorem Work.setRun_au (r : RunnerNo) (x : Option Run) : (w.setRun r x).au = w.au := rfl
@[simp] theorem Work.setRun_mc (r : RunnerNo) (x : Option Run) : (w.setRun r x).mc = w.mc := rfl
@[simp] theorem Work.setRun_slu (r : RunnerNo) (x : Option Run) : (w.setRun r x).slu = w.slu := rfl
@[simp] theorem Work.setRun_powered (r : RunnerNo) (x : Option Run) : (w.setRun r x).powered = w.powered := rfl
@[simp] theorem Work.setRun_held (r : RunnerNo) (x : Option Run) : (w.setRun r x).held = w.held := rfl
@[simp] theorem Work.setRun_choices (r : RunnerNo) (x : Option Run) : (w.setRun r x).choices = w.choices := rfl
@[simp] theorem Work.setRun_out (r : RunnerNo) (x : Option Run) : (w.setRun r x).out = w.out := rfl
@[simp] theorem Work.setRun_passDue (r : RunnerNo) (x : Option Run) : (w.setRun r x).passDue = w.passDue := rfl
@[simp] theorem Work.setRun_arbDue (r : RunnerNo) (x : Option Run) : (w.setRun r x).arbDue = w.arbDue := rfl
@[simp] theorem Work.setRun_preempted (r : RunnerNo) (x : Option Run) : (w.setRun r x).preempted = w.preempted := rfl
@[simp] theorem Work.setRun_considered (r : RunnerNo) (x : Option Run) : (w.setRun r x).considered = w.considered := rfl

@[simp] theorem Work.updRun_pending (r : RunnerNo) (f : Run → Run) : (w.updRun r f).pending = w.pending := rfl
@[simp] theorem Work.updRun_ct (r : RunnerNo) (f : Run → Run) : (w.updRun r f).ct = w.ct := rfl
@[simp] theorem Work.updRun_sa (r : RunnerNo) (f : Run → Run) : (w.updRun r f).sa = w.sa := rfl
@[simp] theorem Work.updRun_kci (r : RunnerNo) (f : Run → Run) : (w.updRun r f).kci = w.kci := rfl
@[simp] theorem Work.updRun_fc (r : RunnerNo) (f : Run → Run) : (w.updRun r f).fc = w.fc := rfl
@[simp] theorem Work.updRun_tb (r : RunnerNo) (f : Run → Run) : (w.updRun r f).tb = w.tb := rfl
@[simp] theorem Work.updRun_au (r : RunnerNo) (f : Run → Run) : (w.updRun r f).au = w.au := rfl
@[simp] theorem Work.updRun_mc (r : RunnerNo) (f : Run → Run) : (w.updRun r f).mc = w.mc := rfl
@[simp] theorem Work.updRun_slu (r : RunnerNo) (f : Run → Run) : (w.updRun r f).slu = w.slu := rfl
@[simp] theorem Work.updRun_powered (r : RunnerNo) (f : Run → Run) : (w.updRun r f).powered = w.powered := rfl
@[simp] theorem Work.updRun_held (r : RunnerNo) (f : Run → Run) : (w.updRun r f).held = w.held := rfl
@[simp] theorem Work.updRun_choices (r : RunnerNo) (f : Run → Run) : (w.updRun r f).choices = w.choices := rfl
@[simp] theorem Work.updRun_out (r : RunnerNo) (f : Run → Run) : (w.updRun r f).out = w.out := rfl
@[simp] theorem Work.updRun_passDue (r : RunnerNo) (f : Run → Run) : (w.updRun r f).passDue = w.passDue := rfl
@[simp] theorem Work.updRun_arbDue (r : RunnerNo) (f : Run → Run) : (w.updRun r f).arbDue = w.arbDue := rfl
@[simp] theorem Work.updRun_preempted (r : RunnerNo) (f : Run → Run) : (w.updRun r f).preempted = w.preempted := rfl
@[simp] theorem Work.updRun_considered (r : RunnerNo) (f : Run → Run) : (w.updRun r f).considered = w.considered := rfl

@[simp] theorem Work.updRunner_pending (r : RunnerNo) (f : RunnerRec → RunnerRec) : (w.updRunner r f).pending = w.pending := rfl
@[simp] theorem Work.updRunner_ct (r : RunnerNo) (f : RunnerRec → RunnerRec) : (w.updRunner r f).ct = w.ct := rfl
@[simp] theorem Work.updRunner_sa (r : RunnerNo) (f : RunnerRec → RunnerRec) : (w.updRunner r f).sa = w.sa := rfl
@[simp] theorem Work.updRunner_kci (r : RunnerNo) (f : RunnerRec → RunnerRec) : (w.updRunner r f).kci = w.kci := rfl
@[simp] theorem Work.updRunner_fc (r : RunnerNo) (f : RunnerRec → RunnerRec) : (w.updRunner r f).fc = w.fc := rfl
@[simp] theorem Work.updRunner_tb (r : RunnerNo) (f : RunnerRec → RunnerRec) : (w.updRunner r f).tb = w.tb := rfl
@[simp] theorem Work.updRunner_au (r : RunnerNo) (f : RunnerRec → RunnerRec) : (w.updRunner r f).au = w.au := rfl
@[simp] theorem Work.updRunner_mc (r : RunnerNo) (f : RunnerRec → RunnerRec) : (w.updRunner r f).mc = w.mc := rfl
@[simp] theorem Work.updRunner_slu (r : RunnerNo) (f : RunnerRec → RunnerRec) : (w.updRunner r f).slu = w.slu := rfl
@[simp] theorem Work.updRunner_powered (r : RunnerNo) (f : RunnerRec → RunnerRec) : (w.updRunner r f).powered = w.powered := rfl
@[simp] theorem Work.updRunner_held (r : RunnerNo) (f : RunnerRec → RunnerRec) : (w.updRunner r f).held = w.held := rfl
@[simp] theorem Work.updRunner_choices (r : RunnerNo) (f : RunnerRec → RunnerRec) : (w.updRunner r f).choices = w.choices := rfl
@[simp] theorem Work.updRunner_out (r : RunnerNo) (f : RunnerRec → RunnerRec) : (w.updRunner r f).out = w.out := rfl
@[simp] theorem Work.updRunner_passDue (r : RunnerNo) (f : RunnerRec → RunnerRec) : (w.updRunner r f).passDue = w.passDue := rfl
@[simp] theorem Work.updRunner_arbDue (r : RunnerNo) (f : RunnerRec → RunnerRec) : (w.updRunner r f).arbDue = w.arbDue := rfl
@[simp] theorem Work.updRunner_preempted (r : RunnerNo) (f : RunnerRec → RunnerRec) : (w.updRunner r f).preempted = w.preempted := rfl
@[simp] theorem Work.updRunner_considered (r : RunnerNo) (f : RunnerRec → RunnerRec) : (w.updRunner r f).considered = w.considered := rfl

@[simp] theorem Work.setQueue_pending (q : List Entry) : (w.setQueue q).pending = w.pending := rfl
@[simp] theorem Work.setQueue_ct (q : List Entry) : (w.setQueue q).ct = w.ct := rfl
@[simp] theorem Work.setQueue_sa (q : List Entry) : (w.setQueue q).sa = w.sa := rfl
@[simp] theorem Work.setQueue_kci (q : List Entry) : (w.setQueue q).kci = w.kci := rfl
@[simp] theorem Work.setQueue_fc (q : List Entry) : (w.setQueue q).fc = w.fc := rfl
@[simp] theorem Work.setQueue_tb (q : List Entry) : (w.setQueue q).tb = w.tb := rfl
@[simp] theorem Work.setQueue_au (q : List Entry) : (w.setQueue q).au = w.au := rfl
@[simp] theorem Work.setQueue_mc (q : List Entry) : (w.setQueue q).mc = w.mc := rfl
@[simp] theorem Work.setQueue_slu (q : List Entry) : (w.setQueue q).slu = w.slu := rfl
@[simp] theorem Work.setQueue_powered (q : List Entry) : (w.setQueue q).powered = w.powered := rfl
@[simp] theorem Work.setQueue_held (q : List Entry) : (w.setQueue q).held = w.held := rfl
@[simp] theorem Work.setQueue_choices (q : List Entry) : (w.setQueue q).choices = w.choices := rfl
@[simp] theorem Work.setQueue_out (q : List Entry) : (w.setQueue q).out = w.out := rfl
@[simp] theorem Work.setQueue_passDue (q : List Entry) : (w.setQueue q).passDue = w.passDue := rfl
@[simp] theorem Work.setQueue_arbDue (q : List Entry) : (w.setQueue q).arbDue = w.arbDue := rfl
@[simp] theorem Work.setQueue_preempted (q : List Entry) : (w.setQueue q).preempted = w.preempted := rfl
@[simp] theorem Work.setQueue_considered (q : List Entry) : (w.setQueue q).considered = w.considered := rfl

@[simp] theorem Work.updBay_pending (b : BayNo) (f : Bay → Bay) : (w.updBay b f).pending = w.pending := rfl
@[simp] theorem Work.updBay_ct (b : BayNo) (f : Bay → Bay) : (w.updBay b f).ct = w.ct := rfl
@[simp] theorem Work.updBay_sa (b : BayNo) (f : Bay → Bay) : (w.updBay b f).sa = w.sa := rfl
@[simp] theorem Work.updBay_kci (b : BayNo) (f : Bay → Bay) : (w.updBay b f).kci = w.kci := rfl
@[simp] theorem Work.updBay_da (b : BayNo) (f : Bay → Bay) : (w.updBay b f).da = w.da := rfl
@[simp] theorem Work.updBay_tb (b : BayNo) (f : Bay → Bay) : (w.updBay b f).tb = w.tb := rfl
@[simp] theorem Work.updBay_au (b : BayNo) (f : Bay → Bay) : (w.updBay b f).au = w.au := rfl
@[simp] theorem Work.updBay_mc (b : BayNo) (f : Bay → Bay) : (w.updBay b f).mc = w.mc := rfl
@[simp] theorem Work.updBay_slu (b : BayNo) (f : Bay → Bay) : (w.updBay b f).slu = w.slu := rfl
@[simp] theorem Work.updBay_powered (b : BayNo) (f : Bay → Bay) : (w.updBay b f).powered = w.powered := rfl
@[simp] theorem Work.updBay_held (b : BayNo) (f : Bay → Bay) : (w.updBay b f).held = w.held := rfl
@[simp] theorem Work.updBay_choices (b : BayNo) (f : Bay → Bay) : (w.updBay b f).choices = w.choices := rfl
@[simp] theorem Work.updBay_out (b : BayNo) (f : Bay → Bay) : (w.updBay b f).out = w.out := rfl
@[simp] theorem Work.updBay_passDue (b : BayNo) (f : Bay → Bay) : (w.updBay b f).passDue = w.passDue := rfl
@[simp] theorem Work.updBay_arbDue (b : BayNo) (f : Bay → Bay) : (w.updBay b f).arbDue = w.arbDue := rfl
@[simp] theorem Work.updBay_preempted (b : BayNo) (f : Bay → Bay) : (w.updBay b f).preempted = w.preempted := rfl
@[simp] theorem Work.updBay_considered (b : BayNo) (f : Bay → Bay) : (w.updBay b f).considered = w.considered := rfl

@[simp] theorem Work.advanceSeq_pending : (w.advanceSeq).pending = w.pending := rfl
@[simp] theorem Work.advanceSeq_ct : (w.advanceSeq).ct = w.ct := rfl
@[simp] theorem Work.advanceSeq_sa : (w.advanceSeq).sa = w.sa := rfl
@[simp] theorem Work.advanceSeq_kci : (w.advanceSeq).kci = w.kci := rfl
@[simp] theorem Work.advanceSeq_fc : (w.advanceSeq).fc = w.fc := rfl
@[simp] theorem Work.advanceSeq_tb : (w.advanceSeq).tb = w.tb := rfl
@[simp] theorem Work.advanceSeq_au : (w.advanceSeq).au = w.au := rfl
@[simp] theorem Work.advanceSeq_mc : (w.advanceSeq).mc = w.mc := rfl
@[simp] theorem Work.advanceSeq_slu : (w.advanceSeq).slu = w.slu := rfl
@[simp] theorem Work.advanceSeq_powered : (w.advanceSeq).powered = w.powered := rfl
@[simp] theorem Work.advanceSeq_held : (w.advanceSeq).held = w.held := rfl
@[simp] theorem Work.advanceSeq_choices : (w.advanceSeq).choices = w.choices := rfl
@[simp] theorem Work.advanceSeq_out : (w.advanceSeq).out = w.out := rfl
@[simp] theorem Work.advanceSeq_passDue : (w.advanceSeq).passDue = w.passDue := rfl
@[simp] theorem Work.advanceSeq_arbDue : (w.advanceSeq).arbDue = w.arbDue := rfl
@[simp] theorem Work.advanceSeq_preempted : (w.advanceSeq).preempted = w.preempted := rfl
@[simp] theorem Work.advanceSeq_considered : (w.advanceSeq).considered = w.considered := rfl

@[simp] theorem Work.updMc_pending (f : ModeControl → ModeControl) : (w.updMc f).pending = w.pending := rfl
@[simp] theorem Work.updMc_ct (f : ModeControl → ModeControl) : (w.updMc f).ct = w.ct := rfl
@[simp] theorem Work.updMc_sa (f : ModeControl → ModeControl) : (w.updMc f).sa = w.sa := rfl
@[simp] theorem Work.updMc_kci (f : ModeControl → ModeControl) : (w.updMc f).kci = w.kci := rfl
@[simp] theorem Work.updMc_da (f : ModeControl → ModeControl) : (w.updMc f).da = w.da := rfl
@[simp] theorem Work.updMc_fc (f : ModeControl → ModeControl) : (w.updMc f).fc = w.fc := rfl
@[simp] theorem Work.updMc_tb (f : ModeControl → ModeControl) : (w.updMc f).tb = w.tb := rfl
@[simp] theorem Work.updMc_au (f : ModeControl → ModeControl) : (w.updMc f).au = w.au := rfl
@[simp] theorem Work.updMc_slu (f : ModeControl → ModeControl) : (w.updMc f).slu = w.slu := rfl
@[simp] theorem Work.updMc_powered (f : ModeControl → ModeControl) : (w.updMc f).powered = w.powered := rfl
@[simp] theorem Work.updMc_held (f : ModeControl → ModeControl) : (w.updMc f).held = w.held := rfl
@[simp] theorem Work.updMc_choices (f : ModeControl → ModeControl) : (w.updMc f).choices = w.choices := rfl
@[simp] theorem Work.updMc_out (f : ModeControl → ModeControl) : (w.updMc f).out = w.out := rfl
@[simp] theorem Work.updMc_passDue (f : ModeControl → ModeControl) : (w.updMc f).passDue = w.passDue := rfl
@[simp] theorem Work.updMc_arbDue (f : ModeControl → ModeControl) : (w.updMc f).arbDue = w.arbDue := rfl
@[simp] theorem Work.updMc_preempted (f : ModeControl → ModeControl) : (w.updMc f).preempted = w.preempted := rfl
@[simp] theorem Work.updMc_considered (f : ModeControl → ModeControl) : (w.updMc f).considered = w.considered := rfl

@[simp] theorem Work.setAlert_pending (f : AlertFlag) (r : AlertRec) : (w.setAlert f r).pending = w.pending := rfl
@[simp] theorem Work.setAlert_ct (f : AlertFlag) (r : AlertRec) : (w.setAlert f r).ct = w.ct := rfl
@[simp] theorem Work.setAlert_sa (f : AlertFlag) (r : AlertRec) : (w.setAlert f r).sa = w.sa := rfl
@[simp] theorem Work.setAlert_kci (f : AlertFlag) (r : AlertRec) : (w.setAlert f r).kci = w.kci := rfl
@[simp] theorem Work.setAlert_da (f : AlertFlag) (r : AlertRec) : (w.setAlert f r).da = w.da := rfl
@[simp] theorem Work.setAlert_fc (f : AlertFlag) (r : AlertRec) : (w.setAlert f r).fc = w.fc := rfl
@[simp] theorem Work.setAlert_tb (f : AlertFlag) (r : AlertRec) : (w.setAlert f r).tb = w.tb := rfl
@[simp] theorem Work.setAlert_mc (f : AlertFlag) (r : AlertRec) : (w.setAlert f r).mc = w.mc := rfl
@[simp] theorem Work.setAlert_slu (f : AlertFlag) (r : AlertRec) : (w.setAlert f r).slu = w.slu := rfl
@[simp] theorem Work.setAlert_powered (f : AlertFlag) (r : AlertRec) : (w.setAlert f r).powered = w.powered := rfl
@[simp] theorem Work.setAlert_held (f : AlertFlag) (r : AlertRec) : (w.setAlert f r).held = w.held := rfl
@[simp] theorem Work.setAlert_choices (f : AlertFlag) (r : AlertRec) : (w.setAlert f r).choices = w.choices := rfl
@[simp] theorem Work.setAlert_out (f : AlertFlag) (r : AlertRec) : (w.setAlert f r).out = w.out := rfl
@[simp] theorem Work.setAlert_passDue (f : AlertFlag) (r : AlertRec) : (w.setAlert f r).passDue = w.passDue := rfl
@[simp] theorem Work.setAlert_arbDue (f : AlertFlag) (r : AlertRec) : (w.setAlert f r).arbDue = w.arbDue := rfl
@[simp] theorem Work.setAlert_preempted (f : AlertFlag) (r : AlertRec) : (w.setAlert f r).preempted = w.preempted := rfl
@[simp] theorem Work.setAlert_considered (f : AlertFlag) (r : AlertRec) : (w.setAlert f r).considered = w.considered := rfl

@[simp] theorem Work.evalLines_pending : (w.evalLines).pending = w.pending := rfl
@[simp] theorem Work.evalLines_ct : (w.evalLines).ct = w.ct := rfl
@[simp] theorem Work.evalLines_sa : (w.evalLines).sa = w.sa := rfl
@[simp] theorem Work.evalLines_kci : (w.evalLines).kci = w.kci := rfl
@[simp] theorem Work.evalLines_da : (w.evalLines).da = w.da := rfl
@[simp] theorem Work.evalLines_fc : (w.evalLines).fc = w.fc := rfl
@[simp] theorem Work.evalLines_tb : (w.evalLines).tb = w.tb := rfl
@[simp] theorem Work.evalLines_mc : (w.evalLines).mc = w.mc := rfl
@[simp] theorem Work.evalLines_slu : (w.evalLines).slu = w.slu := rfl
@[simp] theorem Work.evalLines_powered : (w.evalLines).powered = w.powered := rfl
@[simp] theorem Work.evalLines_held : (w.evalLines).held = w.held := rfl
@[simp] theorem Work.evalLines_choices : (w.evalLines).choices = w.choices := rfl
@[simp] theorem Work.evalLines_out : (w.evalLines).out = w.out := rfl
@[simp] theorem Work.evalLines_passDue : (w.evalLines).passDue = w.passDue := rfl
@[simp] theorem Work.evalLines_arbDue : (w.evalLines).arbDue = w.arbDue := rfl
@[simp] theorem Work.evalLines_preempted : (w.evalLines).preempted = w.preempted := rfl
@[simp] theorem Work.evalLines_considered : (w.evalLines).considered = w.considered := rfl

@[simp] theorem State.updLink_pending (p : Port) (f : StationLink → StationLink) (s : State) : (s.updLink p f).pending = s.pending := rfl
@[simp] theorem State.updLink_ct (p : Port) (f : StationLink → StationLink) (s : State) : (s.updLink p f).ct = s.ct := rfl
@[simp] theorem State.updLink_sa (p : Port) (f : StationLink → StationLink) (s : State) : (s.updLink p f).sa = s.sa := rfl
@[simp] theorem State.updLink_kci (p : Port) (f : StationLink → StationLink) (s : State) : (s.updLink p f).kci = s.kci := rfl
@[simp] theorem State.updLink_da (p : Port) (f : StationLink → StationLink) (s : State) : (s.updLink p f).da = s.da := rfl
@[simp] theorem State.updLink_fc (p : Port) (f : StationLink → StationLink) (s : State) : (s.updLink p f).fc = s.fc := rfl
@[simp] theorem State.updLink_tb (p : Port) (f : StationLink → StationLink) (s : State) : (s.updLink p f).tb = s.tb := rfl
@[simp] theorem State.updLink_au (p : Port) (f : StationLink → StationLink) (s : State) : (s.updLink p f).au = s.au := rfl
@[simp] theorem State.updLink_mc (p : Port) (f : StationLink → StationLink) (s : State) : (s.updLink p f).mc = s.mc := rfl
@[simp] theorem State.updLink_powered (p : Port) (f : StationLink → StationLink) (s : State) : (s.updLink p f).powered = s.powered := rfl
@[simp] theorem State.updLink_held (p : Port) (f : StationLink → StationLink) (s : State) : (s.updLink p f).held = s.held := rfl
@[simp] theorem State.updLink_choices (p : Port) (f : StationLink → StationLink) (s : State) : (s.updLink p f).choices = s.choices := rfl

@[simp] theorem Work.begin_toState (s : State) : (Work.begin s).toState = s := rfl
@[simp] theorem Work.begin_out (s : State) : (Work.begin s).out = [] := rfl
@[simp] theorem Work.begin_passDue (s : State) : (Work.begin s).passDue = false := rfl
@[simp] theorem Work.begin_arbDue (s : State) : (Work.begin s).arbDue = false := rfl
@[simp] theorem Work.trigger_arbDue : w.trigger.arbDue = true := rfl
@[simp] theorem Work.needPass_passDue : w.needPass.passDue = true := rfl
@[simp] theorem Work.emit_out (ps : PortSet) (n : Notice) : (w.emit ps n).out = w.out ++ [(ps, n)] := rfl

end Sys2Proof.Machine
end

