-- ==== Sys2Proof/Laws/Outer.lean ====
section
/-! SUPPORT. What each shared operation can reach: one lemma an operation. An operation reads from a state `w` inside an
event that began with `w0`; the lemma says which of the six custody blocks it may change, and that it changes nothing
else of the state and only adds to the notices. -/

set_option linter.unnecessarySeqFocus false
set_option linter.unusedTactic false
set_option linter.unusedSimpArgs false
set_option linter.unreachableTactic false

namespace Sys2Proof.Machine

/-- A choice among the six blocks that the shared operations write. -/
structure Blocks where
  ct  : Bool := false
  sa  : Bool := false
  kci : Bool := false
  da  : Bool := false
  fc  : Bool := false
  au  : Bool := false
deriving DecidableEq, Repr

/-- From `w` to `u` nothing has changed but the blocks chosen, and notices have only been added. -/
structure Within (m : Blocks) (w u : Work) : Prop where
  pending : u.pending = w.pending
  tb      : u.tb = w.tb
  mc      : u.mc = w.mc
  slu     : u.slu = w.slu
  powered : u.powered = w.powered
  held    : u.held = w.held
  choices : u.choices = w.choices
  ct      : m.ct = false → u.ct = w.ct
  sa      : m.sa = false → u.sa = w.sa
  kci     : m.kci = false → u.kci = w.kci
  da      : m.da = false → u.da = w.da
  fc      : m.fc = false → u.fc = w.fc
  au      : m.au = false → u.au = w.au
  out     : w.out <+: u.out

@[simp] theorem Within.refl (m : Blocks) (w : Work) : Within m w w := by constructor <;> simp

theorem Within.trans {m : Blocks} {w u v : Work} (a : Within m w u) (b : Within m u v) : Within m w v where
  pending := b.pending.trans a.pending
  tb := b.tb.trans a.tb
  mc := b.mc.trans a.mc
  slu := b.slu.trans a.slu
  powered := b.powered.trans a.powered
  held := b.held.trans a.held
  choices := b.choices.trans a.choices
  ct e := (b.ct e).trans (a.ct e)
  sa e := (b.sa e).trans (a.sa e)
  kci e := (b.kci e).trans (a.kci e)
  da e := (b.da e).trans (a.da e)
  fc e := (b.fc e).trans (a.fc e)
  au e := (b.au e).trans (a.au e)
  out := a.out.trans b.out

/-- A step repeated over a list stays within what each step stays within. -/
theorem Within.foldl {α : Type} {m : Blocks} {w : Work} {f : Work → α → Work}
    (hf : ∀ u x, Within m w u → Within m w (f u x)) (l : List α) {u : Work} (h : Within m w u) :
    Within m w (l.foldl f u) := by
  induction l generalizing u with
  | nil => exact h
  | cons x xs ih => exact ih (hf u x h)

variable {m : Blocks} {w0 : Work}

@[simp] theorem Within.ite {c : Prop} [Decidable c] {a b : Work} (ha : Within m w0 a) (hb : Within m w0 b) :
    Within m w0 (if c then a else b) := by split <;> assumption

/-! ## Elementary updates -/

@[simp] theorem Work.trigger_within (w : Work) (hw : Within m w0 w) : Within m w0 (Work.trigger w) := by
  exact hw.trans (by constructor <;> simp [Work.trigger])

@[simp] theorem Work.triggerIf_within (b : Bool) (w : Work) (hw : Within m w0 w) : Within m w0 (Work.triggerIf b w)
    := by
  exact hw.trans (by constructor <;> simp [Work.triggerIf])

@[simp] theorem Work.needPass_within (w : Work) (hw : Within m w0 w) : Within m w0 (Work.needPass w) := by
  exact hw.trans (by constructor <;> simp [Work.needPass])

@[simp] theorem Work.emit_within (ports : PortSet) (n : Notice) (w : Work) (hw : Within m w0 w) : Within m w0
    (Work.emit ports n w) := by
  exact hw.trans (by constructor <;> simp [Work.emit])

@[simp] theorem Work.updTicket_within (n : TicketNo) (f : Ticket → Ticket) (w : Work) (bct : m.ct = true)
    (hw : Within m w0 w) : Within m w0 (Work.updTicket n f w) := by
  exact hw.trans (by constructor <;> simp [Work.updTicket, bct])

@[simp] theorem Work.setSpace_within (sp : SpaceNo) (r : SpaceRec) (w : Work) (bsa : m.sa = true)
    (hw : Within m w0 w) : Within m w0 (Work.setSpace sp r w) := by
  exact hw.trans (by constructor <;> simp [Work.setSpace, bsa])

@[simp] theorem Work.setWaitQueue_within (q : List TicketNo) (w : Work) (bsa : m.sa = true) (hw : Within m w0 w) :
    Within m w0 (Work.setWaitQueue q w) := by
  exact hw.trans (by constructor <;> simp [Work.setWaitQueue, bsa])

@[simp] theorem Work.updHook_within (h : HookNo) (f : Hook → Hook) (w : Work) (bkci : m.kci = true)
    (hw : Within m w0 w) : Within m w0 (Work.updHook h f w) := by
  exact hw.trans (by constructor <;> simp [Work.updHook, bkci])

@[simp] theorem Work.setRun_within (r : RunnerNo) (run : Option Run) (w : Work) (bda : m.da = true)
    (hw : Within m w0 w) : Within m w0 (Work.setRun r run w) := by
  exact hw.trans (by constructor <;> simp [Work.setRun, bda])

@[simp] theorem Work.updRun_within (r : RunnerNo) (f : Run → Run) (w : Work) (bda : m.da = true)
    (hw : Within m w0 w) : Within m w0 (Work.updRun r f w) := by
  simp [Work.updRun, *]

@[simp] theorem Work.updRunner_within (r : RunnerNo) (f : RunnerRec → RunnerRec) (w : Work) (bda : m.da = true)
    (hw : Within m w0 w) : Within m w0 (Work.updRunner r f w) := by
  exact hw.trans (by constructor <;> simp [Work.updRunner, bda])

@[simp] theorem Work.setQueue_within (q : List Entry) (w : Work) (bda : m.da = true) (hw : Within m w0 w) :
    Within m w0 (Work.setQueue q w) := by
  exact hw.trans (by constructor <;> simp [Work.setQueue, bda])

@[simp] theorem Work.updBay_within (b : BayNo) (f : Bay → Bay) (w : Work) (bfc : m.fc = true) (hw : Within m w0 w) :
    Within m w0 (Work.updBay b f w) := by
  exact hw.trans (by constructor <;> simp [Work.updBay, bfc])

@[simp] theorem Work.advanceSeq_within (w : Work) (bda : m.da = true) (hw : Within m w0 w) : Within m w0
    (Work.advanceSeq w) := by
  exact hw.trans (by constructor <;> simp [Work.advanceSeq, bda])

@[simp] theorem Work.setAlert_within (f : AlertFlag) (r : AlertRec) (w : Work) (bau : m.au = true)
    (hw : Within m w0 w) : Within m w0 (Work.setAlert f r w) := by
  exact hw.trans (by constructor <;> simp [Work.setAlert, bau])

@[simp] theorem Work.evalLines_within (w : Work) (bau : m.au = true) (hw : Within m w0 w) : Within m w0
    (Work.evalLines w) := by
  exact hw.trans (by constructor <;> simp [Work.evalLines, bau])

/-! ## Machine/Flags.lean -/

@[simp] theorem Work.alertBegins_within (f : AlertFlag) (sub : Subject) (w : Work) (bau : m.au = true)
    (hw : Within m w0 w) : Within m w0 (Work.alertBegins f sub w) := by
  unfold Work.alertBegins
  (try dsimp only)
  (repeat' split) <;> simp (maxDischargeDepth := 40) [*]

@[simp] theorem Work.alertCounts_within (f : AlertFlag) (sub : Subject) (w : Work) (bau : m.au = true)
    (hw : Within m w0 w) : Within m w0 (Work.alertCounts f sub w) := by
  unfold Work.alertCounts
  (try dsimp only)
  (repeat' split) <;> simp (maxDischargeDepth := 40) [*]

@[simp] theorem Work.raise_within (f : AlertFlag) (sub : Subject) (w : Work) (bau : m.au = true)
    (hw : Within m w0 w) : Within m w0 (Work.raise f sub w) := by
  unfold Work.raise
  (try dsimp only)
  (repeat' split) <;> simp (maxDischargeDepth := 40) [*]

@[simp] theorem Work.evalCondition_within (f : AlertFlag) (holds : Bool) (sub : TicketNo) (cause : Bool) (w : Work)
    (bau : m.au = true) (hw : Within m w0 w) : Within m w0 (Work.evalCondition f holds sub cause w) := by
  unfold Work.evalCondition
  (try dsimp only)
  (repeat' split) <;> simp (maxDischargeDepth := 40) [*]

@[simp] theorem Work.evalKeyMissing_within (n : TicketNo) (cause : Bool) (w : Work) (bau : m.au = true)
    (hw : Within m w0 w) : Within m w0 (Work.evalKeyMissing n cause w) := by
  unfold Work.evalKeyMissing
  (try dsimp only)
  (repeat' split) <;> simp (maxDischargeDepth := 40) [*]

@[simp] theorem Work.evalSpaceWait_within (n : TicketNo) (cause : Bool) (w : Work) (bau : m.au = true)
    (hw : Within m w0 w) : Within m w0 (Work.evalSpaceWait n cause w) := by
  unfold Work.evalSpaceWait
  (try dsimp only)
  (repeat' split) <;> simp (maxDischargeDepth := 40) [*]

/-! ## Machine/Ops.lean -/

@[simp] theorem Work.hold_within (n : TicketNo) (f : ClaimField) (sp : SpaceNo) (w : Work) (bct : m.ct = true)
    (bsa : m.sa = true) (hw : Within m w0 w) : Within m w0 (Work.hold n f sp w) := by
  unfold Work.hold
  (try dsimp only)
  (repeat' split) <;> simp (maxDischargeDepth := 40) [*]

@[simp] theorem Work.releaseClaim_within (n : TicketNo) (f : ClaimField) (w : Work) (bct : m.ct = true)
    (bsa : m.sa = true) (hw : Within m w0 w) : Within m w0 (Work.releaseClaim n f w) := by
  unfold Work.releaseClaim
  (try dsimp only)
  (repeat' split) <;> simp (maxDischargeDepth := 40) [*]

@[simp] theorem Work.queueLatch_within (sl : Slot) (latched : Bool) (w : Work) (bkci : m.kci = true)
    (hw : Within m w0 w) : Within m w0 (Work.queueLatch sl latched w) := by
  exact hw.trans (by constructor <;> simp [Work.queueLatch, bkci])

@[simp] theorem Work.queueScan_within (b : BankNo) (w : Work) (bkci : m.kci = true) (hw : Within m w0 w) :
    Within m w0 (Work.queueScan b w) := by
  exact hw.trans (by constructor <;> simp [Work.queueScan, bkci])

/-- Flags of the event in hand may change freely. -/
theorem Within.flags {w u : Work} (hw : Within m w0 w) (hs : u.toState = w.toState) (ho : u.out = w.out) :
    Within m w0 u := by
  refine hw.trans ?_
  constructor <;> simp [hs, ho]

@[simp] theorem Work.syncSlot_within (sl : Slot) (w : Work) (bkci : m.kci = true) (hw : Within m w0 w) : Within m w0
    (Work.syncSlot sl w) := by
  unfold Work.syncSlot
  split
  · exact hw
  · exact Work.queueLatch_within _ _ _ bkci (hw.trans (by constructor <;> simp [bkci]))

@[simp] theorem Work.syncHook_within (h : HookNo) (w : Work) (bkci : m.kci = true) (hw : Within m w0 w) :
    Within m w0 (Work.syncHook h w) := by
  unfold Work.syncHook
  (try dsimp only)
  (repeat' split) <;> simp (maxDischargeDepth := 40) [*]

@[simp] theorem Work.noteDecode_within (sl : Slot) (field : BitVec 24) (w : Work) (bkci : m.kci = true)
    (hw : Within m w0 w) : Within m w0 (Work.noteDecode sl field w) := by
  unfold Work.noteDecode
  dsimp only
  split
  · exact hw
  · exact hw.trans (by constructor <;> simp [bkci])

@[simp] theorem Work.setKey_within (n : TicketNo) (k : KeyPlace) (w : Work) (bct : m.ct = true) (bau : m.au = true)
    (hw : Within m w0 w) : Within m w0 (Work.setKey n k w) := by
  unfold Work.setKey
  (try dsimp only)
  (repeat' split) <;> simp (maxDischargeDepth := 40) [*]

@[simp] theorem Work.strayHook_within (h : HookNo) (w : Work) (bkci : m.kci = true) (bau : m.au = true)
    (hw : Within m w0 w) : Within m w0 (Work.strayHook h w) := by
  unfold Work.strayHook
  (try dsimp only)
  (repeat' split) <;> simp (maxDischargeDepth := 40) [*]

@[simp] theorem Work.moveKeyOff_within (n : TicketNo) (k : KeyPlace) (w : Work) (bct : m.ct = true)
    (bkci : m.kci = true) (bau : m.au = true) (hw : Within m w0 w) : Within m w0 (Work.moveKeyOff n k w) := by
  unfold Work.moveKeyOff
  (try dsimp only)
  (repeat' split) <;> simp (maxDischargeDepth := 40) [*]

/-! ## Machine/Alloc.lean -/

@[simp] theorem Work.emitSpace_within (n : TicketNo) (cause : SpaceCause) (claim : ClaimField) (sp : Option SpaceNo)
    (w : Work) (hw : Within m w0 w) : Within m w0 (Work.emitSpace n cause claim sp w) := by
  unfold Work.emitSpace
  (try dsimp only)
  (repeat' split) <;> simp (maxDischargeDepth := 40) [*]

@[simp] theorem Work.joinQueue_within (n : TicketNo) (w : Work) (bct : m.ct = true) (bsa : m.sa = true)
    (bau : m.au = true) (hw : Within m w0 w) : Within m w0 (Work.joinQueue n w) := by
  unfold Work.joinQueue
  (try dsimp only)
  (repeat' split) <;> simp (maxDischargeDepth := 40) [*]

@[simp] theorem Work.leaveQueue_within (n : TicketNo) (w : Work) (bsa : m.sa = true) (bau : m.au = true)
    (hw : Within m w0 w) : Within m w0 (Work.leaveQueue n w) := by
  unfold Work.leaveQueue
  (try dsimp only)
  (repeat' split) <;> simp (maxDischargeDepth := 40) [*]

@[simp] theorem Work.tryWaiting_within (w : Work) (n : TicketNo) (bct : m.ct = true) (bsa : m.sa = true)
    (bau : m.au = true) (hw : Within m w0 w) : Within m w0 (Work.tryWaiting w n) := by
  unfold Work.tryWaiting
  (try dsimp only)
  (repeat' split) <;> simp (maxDischargeDepth := 40) [*]

@[simp] theorem Work.runPass_within (w : Work) (bct : m.ct = true) (bsa : m.sa = true) (bau : m.au = true)
    (hw : Within m w0 w) : Within m w0 (Work.runPass w) := by
  exact Within.foldl (fun u x h => Work.tryWaiting_within u x bct bsa bau h) _ hw

@[simp] theorem Work.claimMoves_within (u : TicketNo) (f : ClaimField) (sp : SpaceNo) (w : Work) (bct : m.ct = true)
    (bsa : m.sa = true) (hw : Within m w0 w) : Within m w0 (Work.claimMoves u f sp w) := by
  unfold Work.claimMoves
  (try dsimp only)
  (repeat' split) <;> simp (maxDischargeDepth := 40) [*]

/-! ## Machine/Recall.lean -/

@[simp] theorem Work.addEntry_within (e : Entry) (w : Work) (bda : m.da = true) (hw : Within m w0 w) : Within m w0
    (Work.addEntry e w) := by
  exact Work.trigger_within _ ((Work.setQueue_within (insertEntry e w.da.queue) w bda hw).flags rfl rfl)

@[simp] theorem Work.dropEntry_within (n : TicketNo) (w : Work) (bda : m.da = true) (hw : Within m w0 w) :
    Within m w0 (Work.dropEntry n w) := by
  unfold Work.dropEntry
  (try dsimp only)
  (repeat' split) <;> simp (maxDischargeDepth := 40) [*]

@[simp] theorem Work.createEntry_within (n : TicketNo) (k : EntryKind) (lv : Level) (c : Section4) (notify
    : PortSet) (w : Work) (bda : m.da = true) (hw : Within m w0 w) : Within m w0 (Work.createEntry n k lv c notify w)
    := by
  unfold Work.createEntry
  (try dsimp only)
  (repeat' split) <;> simp (maxDischargeDepth := 40) [*]

@[simp] theorem Work.replaceEntry_within (e : Entry) (w : Work) (bda : m.da = true) (hw : Within m w0 w) :
    Within m w0 (Work.replaceEntry e w) := by
  unfold Work.replaceEntry
  (try dsimp only)
  (repeat' split) <;> simp (maxDischargeDepth := 40) [*]

@[simp] theorem Work.askReturn_within (n : TicketNo) (lv : Level) (c : Section4) (w : Work) (bda : m.da = true)
    (hw : Within m w0 w) : Within m w0 (Work.askReturn n lv c w) := by
  unfold Work.askReturn
  (try dsimp only)
  (repeat' split) <;> simp (maxDischargeDepth := 40) [*]

/-! ## Machine/Forecourt.lean -/

@[simp] theorem Work.evict_within (b : BayNo) (x : TicketNo) (lv : Level) (w : Work) (bda : m.da = true)
    (bfc : m.fc = true) (hw : Within m w0 w) : Within m w0 (Work.evict b x lv w) := by
  unfold Work.evict
  (try dsimp only)
  (repeat' split) <;> simp (maxDischargeDepth := 40) [*]

@[simp] theorem Work.moveMarker_within (b : BayNo) (w : Work) (bfc : m.fc = true) (hw : Within m w0 w) : Within m w0
    (Work.moveMarker b w) := by
  exact hw.trans (by constructor <;> simp [Work.moveMarker, bfc])

@[simp] theorem Work.takeBay_within (b : BayNo) (x : TicketNo) (lv : Level) (w : Work) (bda : m.da = true)
    (bfc : m.fc = true) (hw : Within m w0 w) : Within m w0 (Work.takeBay b x lv w) := by
  unfold Work.takeBay
  (try dsimp only)
  (repeat' split) <;> simp (maxDischargeDepth := 40) [*]

@[simp] theorem Work.revertBay_within (b : BayNo) (x : TicketNo) (w : Work) (bda : m.da = true) (bfc : m.fc = true)
    (hw : Within m w0 w) : Within m w0 (Work.revertBay b x w) := by
  unfold Work.revertBay
  (try dsimp only)
  (repeat' split) <;> simp (maxDischargeDepth := 40) [*]

@[simp] theorem Work.vacate_within (b : BayNo) (w : Work) (bfc : m.fc = true) (hw : Within m w0 w) : Within m w0
    (Work.vacate b w) := by
  unfold Work.vacate
  (try dsimp only)
  (repeat' split) <;> simp (maxDischargeDepth := 40) [*]

@[simp] theorem Work.returnGrantBay_within (b : BayNo) (w : Work) (bfc : m.fc = true) (hw : Within m w0 w) :
    Within m w0 (Work.returnGrantBay b w) := by
  unfold Work.returnGrantBay
  (try dsimp only)
  (repeat' split) <;> simp (maxDischargeDepth := 40) [*]

@[simp] theorem Work.parkedBay_within (b : BayNo) (t : TicketNo) (w : Work) (bfc : m.fc = true) (hw : Within m w0 w) :
    Within m w0 (Work.parkedBay b t w) := by
  unfold Work.parkedBay
  (try dsimp only)
  (repeat' split) <;> simp (maxDischargeDepth := 40) [*]

@[simp] theorem Work.handoverBay_within (b : BayNo) (t : TicketNo) (w : Work) (bfc : m.fc = true)
    (hw : Within m w0 w) : Within m w0 (Work.handoverBay b t w) := by
  unfold Work.handoverBay
  (try dsimp only)
  (repeat' split) <;> simp (maxDischargeDepth := 40) [*]

@[simp] theorem Work.emitReady_within (ports : PortSet) (n : TicketNo) (b : BayNo) (cause : ReadyCause) (w : Work)
    (hw : Within m w0 w) : Within m w0 (Work.emitReady ports n b cause w) := by
  unfold Work.emitReady
  (try dsimp only)
  (repeat' split) <;> simp (maxDischargeDepth := 40) [*]

@[simp] theorem Work.rereserve_within (b : BayNo) (x : TicketNo) (w : Work) (bct : m.ct = true) (bda : m.da = true)
    (bfc : m.fc = true) (hw : Within m w0 w) : Within m w0 (Work.rereserve b x w) := by
  unfold Work.rereserve
  (try dsimp only)
  (repeat' split) <;> simp (maxDischargeDepth := 40) [*]

@[simp] theorem Work.markCalled_within (b : BayNo) (w : Work) (bct : m.ct = true) (bda : m.da = true)
    (bfc : m.fc = true) (hw : Within m w0 w) : Within m w0 (Work.markCalled b w) := by
  unfold Work.markCalled
  (try dsimp only)
  (repeat' split) <;> simp (maxDischargeDepth := 40) [*]

/-! ## Machine/Runs.lean -/

@[simp] theorem Work.emitStep_within (r : RunnerNo) (run : Run) (i : Nat) (reason : StepReason) (completed : Bool)
    (w : Work) (hw : Within m w0 w) : Within m w0 (Work.emitStep r run i reason completed w) := by
  unfold Work.emitStep
  (try dsimp only)
  (repeat' split) <;> simp (maxDischargeDepth := 40) [*]

@[simp] theorem Work.emitCurrent_within (r : RunnerNo) (reason : StepReason) (w : Work) (hw : Within m w0 w) :
    Within m w0 (Work.emitCurrent r reason w) := by
  unfold Work.emitCurrent
  (try dsimp only)
  (repeat' split) <;> simp (maxDischargeDepth := 40) [*]

@[simp] theorem Work.openHook_within (h : HookNo) (n : TicketNo) (w : Work) (bkci : m.kci = true)
    (hw : Within m w0 w) : Within m w0 (Work.openHook h n w) := by
  unfold Work.openHook
  (try dsimp only)
  (repeat' split) <;> simp (maxDischargeDepth := 40) [*]

@[simp] theorem Work.planBlocker_within (excluded : Option SpaceNo) (w : Work) (n : TicketNo) (bct : m.ct = true)
    (bsa : m.sa = true) (hw : Within m w0 w) : Within m w0 (Work.planBlocker excluded w n) := by
  unfold Work.planBlocker
  (try dsimp only)
  (repeat' split) <;> simp (maxDischargeDepth := 40) [*]

@[simp] theorem Work.replan_within (excluded : Option SpaceNo) (n : TicketNo) (w : Work) (bct : m.ct = true)
    (bsa : m.sa = true) (hw : Within m w0 w) : Within m w0 (Work.replan excluded n w) := by
  unfold Work.replan
  (try dsimp only)
  (repeat' split) <;> simp (maxDischargeDepth := 40) [*]

@[simp] theorem Work.askRelease_within (r : RunnerNo) (n : TicketNo) (w : Work) (bkci : m.kci = true)
    (bda : m.da = true) (hw : Within m w0 w) : Within m w0 (Work.askRelease r n w) := by
  unfold Work.askRelease
  (try dsimp only)
  (repeat' split) <;> simp (maxDischargeDepth := 40) [*]

@[simp] theorem Work.makeCurrent_within (r : RunnerNo) (w : Work) (bct : m.ct = true) (bsa : m.sa = true)
    (bkci : m.kci = true) (bda : m.da = true) (hw : Within m w0 w) : Within m w0 (Work.makeCurrent r w) := by
  unfold Work.makeCurrent
  (try dsimp only)
  (repeat' split) <;> simp (maxDischargeDepth := 40) [*]

@[simp] theorem Work.stepLifted_within (n : TicketNo) (w : Work) (bct : m.ct = true) (bda : m.da = true)
    (hw : Within m w0 w) : Within m w0 (Work.stepLifted n w) := by
  unfold Work.stepLifted
  (try dsimp only)
  (repeat' split) <;> simp (maxDischargeDepth := 40) [*]

@[simp] theorem Work.stepLapsed_within (n : TicketNo) (w : Work) (bda : m.da = true) (hw : Within m w0 w) :
    Within m w0 (Work.stepLapsed n w) := by
  unfold Work.stepLapsed
  (try dsimp only)
  (repeat' split) <;> simp (maxDischargeDepth := 40) [*]

@[simp] theorem Work.mapLanes_within (f : Lane → Lane) (w : Work) (bsa : m.sa = true) (hw : Within m w0 w) :
    Within m w0 (Work.mapLanes f w) := by
  exact hw.trans (by constructor <;> simp [Work.mapLanes, bsa])

@[simp] theorem Work.setShuffle_within (front : Option SpaceNo) (r : RunnerNo) (w : Work) (bsa : m.sa = true)
    (hw : Within m w0 w) : Within m w0 (Work.setShuffle front r w) := by
  unfold Work.setShuffle
  (try dsimp only)
  (repeat' split) <;> simp (maxDischargeDepth := 40) [*]

@[simp] theorem Work.clearShuffle_within (r : RunnerNo) (w : Work) (bsa : m.sa = true) (hw : Within m w0 w) :
    Within m w0 (Work.clearShuffle r w) := by
  unfold Work.clearShuffle
  (try dsimp only)
  (repeat' split) <;> simp (maxDischargeDepth := 40) [*]

@[simp] theorem Work.setRunOn_within (run : Run) (r : Option RunnerNo) (w : Work) (bct : m.ct = true)
    (hw : Within m w0 w) : Within m w0 (Work.setRunOn run r w) := by
  exact Within.foldl (fun u x h => Work.updTicket_within x.ticket _ u bct h) _ hw

@[simp] theorem Work.freeRunner_within (r : RunnerNo) (w : Work) (bda : m.da = true) (hw : Within m w0 w) :
    Within m w0 (Work.freeRunner r w) := by
  unfold Work.freeRunner
  (try dsimp only)
  (repeat' split) <;> simp (maxDischargeDepth := 40) [*]

@[simp] theorem Work.completeRun_within (r : RunnerNo) (reason : StepReason) (w : Work) (bct : m.ct = true)
    (bsa : m.sa = true) (bda : m.da = true) (hw : Within m w0 w) : Within m w0 (Work.completeRun r reason w) := by
  unfold Work.completeRun
  (try dsimp only)
  (repeat' split) <;> simp (maxDischargeDepth := 40) [*]

@[simp] theorem Work.relatch_within (n : TicketNo) (w : Work) (bkci : m.kci = true) (hw : Within m w0 w) :
    Within m w0 (Work.relatch n w) := by
  unfold Work.relatch
  (try dsimp only)
  (repeat' split) <;> simp (maxDischargeDepth := 40) [*]

@[simp] theorem Work.revertTarget_within (n : TicketNo) (w : Work) (bct : m.ct = true) (bda : m.da = true)
    (bfc : m.fc = true) (hw : Within m w0 w) : Within m w0 (Work.revertTarget n w) := by
  unfold Work.revertTarget
  (try dsimp only)
  (repeat' split) <;> simp (maxDischargeDepth := 40) [*]

@[simp] theorem Work.abortRun_within (r : RunnerNo) (cause : HaltCause) (returned : Bool) (w : Work)
    (bct : m.ct = true) (bsa : m.sa = true) (bkci : m.kci = true) (bda : m.da = true) (bfc : m.fc = true)
    (hw : Within m w0 w) : Within m w0 (Work.abortRun r cause returned w) := by
  unfold Work.abortRun
  split
  · exact hw
  · rename_i run _
    have h1 : Within m w0 (match run.current? with | some st => w.relatch st.ticket | none => w) := by
      split <;> simp [*]
    have h2 := Within.foldl (f := fun (w : Work) (st : RunStep) => w.releaseClaim st.ticket .nextSpace)
      (fun u x h => Work.releaseClaim_within _ _ _ bct bsa h) (run.steps.filter fun st => st.role == .blocker) h1
    dsimp only
    refine Work.emit_within _ _ _ (Work.setRun_within _ _ _ bda (Work.setRunOn_within _ _ _ bct ?_))
    exact Work.revertTarget_within _ _ bct bda bfc (Work.clearShuffle_within _ _ bsa h2)

@[simp] theorem Work.returnEntry_within (run : Run) (w : Work) (bda : m.da = true) (hw : Within m w0 w) :
    Within m w0 (Work.returnEntry run w) := by
  unfold Work.returnEntry
  (try dsimp only)
  (repeat' split) <;> simp (maxDischargeDepth := 40) [*]

@[simp] theorem Work.displaceHeld_within (excluded : Option SpaceNo) (w : Work) (x : SpaceNo) (bct : m.ct = true)
    (bsa : m.sa = true) (hw : Within m w0 w) : Within m w0 (Work.displaceHeld excluded w x) := by
  unfold Work.displaceHeld
  (try dsimp only)
  (repeat' split) <;> simp (maxDischargeDepth := 40) [*]

@[simp] theorem Work.emitRun_within (r : RunnerNo) (preempting : Bool) (w : Work) (hw : Within m w0 w) : Within m w0
    (Work.emitRun r preempting w) := by
  unfold Work.emitRun
  (try dsimp only)
  (repeat' split) <;> simp (maxDischargeDepth := 40) [*]

@[simp] theorem Work.reserveFor_within (r : RunnerNo) (e : Entry) (w : Work) (bct : m.ct = true) (bda : m.da = true)
    (bfc : m.fc = true) (hw : Within m w0 w) : Within m w0 (Work.reserveFor r e w) := by
  unfold Work.reserveFor
  (try dsimp only)
  (repeat' split) <;> simp (maxDischargeDepth := 40) [*]

@[simp] theorem Work.beginGrant_within (e : Entry) (r : RunnerNo) (duty : Duty) (w : Work) (bda : m.da = true)
    (hw : Within m w0 w) : Within m w0 (Work.beginGrant e r duty w) := by
  unfold Work.beginGrant
  (try dsimp only)
  (repeat' split) <;> simp (maxDischargeDepth := 40) [*]

@[simp] theorem Work.grantRetrieve_within (e : Entry) (r : RunnerNo) (preempting : Bool) (w : Work)
    (bct : m.ct = true) (bsa : m.sa = true) (bkci : m.kci = true) (bda : m.da = true) (bfc : m.fc = true)
    (hw : Within m w0 w) : Within m w0 (Work.grantRetrieve e r preempting w) := by
  unfold Work.grantRetrieve
  split
  · exact hw
  · rename_i t _
    have h1 : Within m w0 ((w.beginGrant e r .assigned).setShuffle (t.space.bind w.laneFront?) r) := by simp [*]
    have h2 (l : List SpaceNo) := Within.foldl (f := Work.displaceHeld (t.space.bind w.laneFront?))
      (fun u x h => Work.displaceHeld_within _ u x bct bsa h) l h1
    have h3 (k : List SpaceNo) (l : List TicketNo) := Within.foldl (f := Work.planBlocker (t.space.bind w.laneFront?))
      (fun u x h => Work.planBlocker_within _ u x bct bsa h) l (h2 k)
    dsimp only
    refine Work.emitRun_within _ _ _ (Work.makeCurrent_within _ _ bct bsa bkci bda ?_)
    exact Work.setRunOn_within _ _ _ bct (Work.reserveFor_within _ _ _ bct bda bfc (Work.setRun_within _ _ _ bda (h3 _ _)))

@[simp] theorem Work.grantReturn_within (e : Entry) (r : RunnerNo) (preempting : Bool) (w : Work)
    (bct : m.ct = true) (bsa : m.sa = true) (bkci : m.kci = true) (bda : m.da = true) (bfc : m.fc = true) (bau : m.au = true)
    (hw : Within m w0 w) : Within m w0 (Work.grantReturn e r preempting w) := by
  unfold Work.grantReturn
  (try dsimp only)
  (repeat' split) <;> simp (maxDischargeDepth := 40) [*]

@[simp] theorem Work.grant_within (e : Entry) (r : RunnerNo) (preempting : Bool) (w : Work) (bct : m.ct = true)
    (bsa : m.sa = true) (bkci : m.kci = true) (bda : m.da = true) (bfc : m.fc = true) (bau : m.au = true)
    (hw : Within m w0 w) : Within m w0 (Work.grant e r preempting w) := by
  unfold Work.grant
  (try dsimp only)
  (repeat' split) <;> simp (maxDischargeDepth := 40) [*]

/-! ## Machine/Arbiter.lean -/

@[simp] theorem Work.preempt_within (e : Entry) (r : RunnerNo) (run : Run) (w : Work) (bct : m.ct = true)
    (bsa : m.sa = true) (bkci : m.kci = true) (bda : m.da = true) (bfc : m.fc = true) (bau : m.au = true)
    (hw : Within m w0 w) : Within m w0 (Work.preempt e r run w) := by
  have h := Work.grant_within e r true ((w.abortRun r .preempted true).returnEntry run) bct bsa bkci bda bfc bau
    (Work.returnEntry_within _ _ bda (Work.abortRun_within _ _ _ _ bct bsa bkci bda bfc hw))
  exact h.flags rfl rfl

@[simp] theorem Work.passIfDue_within (w : Work) (bct : m.ct = true) (bsa : m.sa = true) (bau : m.au = true)
    (hw : Within m w0 w) : Within m w0 (Work.passIfDue w) := by
  unfold Work.passIfDue
  split
  · exact Work.runPass_within _ bct bsa bau (hw.flags rfl rfl)
  · exact hw

theorem arbitrateTurns_within (b : m = ⟨true, true, true, true, true, true⟩) (n : Nat) (w : Work)
    (hw : Within m w0 w) : Within m w0 (arbitrateTurns n w) := by
  induction n generalizing w with
  | zero => exact hw
  | succ n ih =>
    subst b
    unfold arbitrateTurns
    split
    · exact hw
    · rename_i e _
      have hc : Within ⟨true, true, true, true, true, true⟩ w0 { w with considered := e.ticket :: w.considered } :=
        hw.flags rfl rfl
      dsimp only
      split
      · exact ih _ hc
      · split
        · exact ih _ (Work.grant_within _ _ _ _ rfl rfl rfl rfl rfl rfl hc)
        · split
          · exact ih _ (Work.preempt_within _ _ _ _ rfl rfl rfl rfl rfl rfl hc)
          · exact hc

theorem arbitrateRounds_within (b : m = ⟨true, true, true, true, true, true⟩) (n : Nat) (w : Work)
    (hw : Within m w0 w) : Within m w0 (arbitrateRounds n w) := by
  induction n generalizing w with
  | zero => exact hw
  | succ n ih =>
    have ht := arbitrateTurns_within b (turnBound w) { w with considered := [], preempted := false }
      (hw.flags rfl rfl)
    unfold arbitrateRounds
    dsimp only
    split
    · subst b
      exact ih _ (Work.runPass_within _ rfl rfl rfl ht)
    · exact ht

@[simp] theorem Work.arbitrateIfDue_within (w : Work) (bct : m.ct = true) (bsa : m.sa = true) (bkci : m.kci = true)
    (bda : m.da = true) (bfc : m.fc = true) (bau : m.au = true) (hw : Within m w0 w) : Within m w0
    (Work.arbitrateIfDue w) := by
  unfold Work.arbitrateIfDue
  split
  · exact arbitrateRounds_within (by cases m; simp_all) _ _ (hw.flags rfl rfl)
  · exact hw

@[simp] theorem Work.finish_within (w : Work) (bct : m.ct = true) (bsa : m.sa = true) (bkci : m.kci = true)
    (bda : m.da = true) (bfc : m.fc = true) (bau : m.au = true) (hw : Within m w0 w) : Within m w0 (Work.finish w) := by
  unfold Work.finish
  (try dsimp only)
  (repeat' split) <;> simp (maxDischargeDepth := 40) [*]

/-! ## Machine/Cabinet.lean -/

@[simp] theorem Work.hookFault_within (h : HookNo) (w : Work) (bkci : m.kci = true) (bau : m.au = true)
    (hw : Within m w0 w) : Within m w0 (Work.hookFault h w) := by
  unfold Work.hookFault
  (try dsimp only)
  (repeat' split) <;> simp (maxDischargeDepth := 40) [*]

@[simp] theorem Work.hookHolds_within (h : HookNo) (n : TicketNo) (w : Work) (bct : m.ct = true)
    (bkci : m.kci = true) (bau : m.au = true) (hw : Within m w0 w) : Within m w0 (Work.hookHolds h n w) := by
  unfold Work.hookHolds
  (try dsimp only)
  (repeat' split) <;> simp (maxDischargeDepth := 40) [*]

@[simp] theorem Work.hungOnEmpty_within (h : HookNo) (sl : Slot) (field : BitVec 24) (w : Work) (bct : m.ct = true)
    (bkci : m.kci = true) (bau : m.au = true) (hw : Within m w0 w) : Within m w0 (Work.hungOnEmpty h sl field w) := by
  unfold Work.hungOnEmpty
  (try dsimp only)
  (repeat' split) <;> simp (maxDischargeDepth := 40) [*]

@[simp] theorem Work.carryRehang_within (h : HookNo) (n : TicketNo) (carry : Fin 34) (sl : Slot) (field : BitVec 24)
    (w : Work) (bct : m.ct = true) (bkci : m.kci = true) (bau : m.au = true) (hw : Within m w0 w) : Within m w0
    (Work.carryRehang h n carry sl field w) := by
  unfold Work.carryRehang
  (try dsimp only)
  (repeat' split) <;> simp (maxDischargeDepth := 40) [*]

@[simp] theorem Work.hungOnSpare_within (h : HookNo) (sl : Slot) (field : BitVec 24) (w : Work) (bct : m.ct = true)
    (bkci : m.kci = true) (bau : m.au = true) (hw : Within m w0 w) : Within m w0 (Work.hungOnSpare h sl field w) := by
  unfold Work.hungOnSpare
  (try dsimp only)
  (repeat' split) <;> simp (maxDischargeDepth := 40) [*]

@[simp] theorem Work.takeHung_within (sl : Slot) (field : BitVec 24) (w : Work) (bct : m.ct = true)
    (bkci : m.kci = true) (bau : m.au = true) (hw : Within m w0 w) : Within m w0 (Work.takeHung sl field w) := by
  unfold Work.takeHung
  (try dsimp only)
  (repeat' split) <;> simp (maxDischargeDepth := 40) [*]

@[simp] theorem Work.emptyHook_within (h : HookNo) (w : Work) (bkci : m.kci = true) (hw : Within m w0 w) :
    Within m w0 (Work.emptyHook h w) := by
  unfold Work.emptyHook
  (try dsimp only)
  (repeat' split) <;> simp (maxDischargeDepth := 40) [*]

@[simp] theorem Work.liftReleased_within (h : HookNo) (n : TicketNo) (w : Work) (bct : m.ct = true)
    (bkci : m.kci = true) (bda : m.da = true) (bau : m.au = true) (hw : Within m w0 w) : Within m w0 (Work.liftReleased h n w)
    := by
  unfold Work.liftReleased
  (try dsimp only)
  (repeat' split) <;> simp (maxDischargeDepth := 40) [*]

@[simp] theorem Work.liftHolding_within (h : HookNo) (n : TicketNo) (w : Work) (bct : m.ct = true)
    (bkci : m.kci = true) (bda : m.da = true) (bau : m.au = true) (hw : Within m w0 w) : Within m w0 (Work.liftHolding h n w)
    := by
  unfold Work.liftHolding
  (try dsimp only)
  (repeat' split) <;> simp (maxDischargeDepth := 40) [*]

@[simp] theorem Work.takeLifted_within (sl : Slot) (w : Work) (bct : m.ct = true) (bkci : m.kci = true)
    (bda : m.da = true) (bau : m.au = true) (hw : Within m w0 w) : Within m w0 (Work.takeLifted sl w) := by
  unfold Work.takeLifted
  (try dsimp only)
  (repeat' split) <;> simp (maxDischargeDepth := 40) [*]

@[simp] theorem Work.takeSensorFault_within (sl : Slot) (w : Work) (bkci : m.kci = true) (bau : m.au = true)
    (hw : Within m w0 w) : Within m w0 (Work.takeSensorFault sl w) := by
  unfold Work.takeSensorFault
  (try dsimp only)
  (repeat' split) <;> simp (maxDischargeDepth := 40) [*]

@[simp] theorem Work.lapse_within (h : HookNo) (n : TicketNo) (w : Work) (bkci : m.kci = true) (bda : m.da = true)
    (bau : m.au = true) (hw : Within m w0 w) : Within m w0 (Work.lapse h n w) := by
  unfold Work.lapse
  (try dsimp only)
  (repeat' split) <;> simp (maxDischargeDepth := 40) [*]

@[simp] theorem Work.closeRemoval_within (h : HookNo) (w : Work) (bkci : m.kci = true) (hw : Within m w0 w) :
    Within m w0 (Work.closeRemoval h w) := by
  unfold Work.closeRemoval
  (try dsimp only)
  (repeat' split) <;> simp (maxDischargeDepth := 40) [*]

@[simp] theorem Work.tickHook_within (w : Work) (h : HookNo) (bkci : m.kci = true) (bda : m.da = true)
    (bau : m.au = true) (hw : Within m w0 w) : Within m w0 (Work.tickHook w h) := by
  unfold Work.tickHook
  (try dsimp only)
  (repeat' split) <;> simp (maxDischargeDepth := 40) [*]

/-! ## Machine/Ticks.lean -/

@[simp] theorem Work.runOverdue_within (r : RunnerNo) (w : Work) (bda : m.da = true) (bau : m.au = true)
    (hw : Within m w0 w) : Within m w0 (Work.runOverdue r w) := by
  unfold Work.runOverdue
  (try dsimp only)
  (repeat' split) <;> simp (maxDischargeDepth := 40) [*]

@[simp] theorem Work.runLost_within (r : RunnerNo) (w : Work) (bda : m.da = true) (bau : m.au = true)
    (hw : Within m w0 w) : Within m w0 (Work.runLost r w) := by
  unfold Work.runLost
  (try dsimp only)
  (repeat' split) <;> simp (maxDischargeDepth := 40) [*]

@[simp] theorem Work.tickRun_within (w : Work) (r : RunnerNo) (bda : m.da = true) (bau : m.au = true)
    (hw : Within m w0 w) : Within m w0 (Work.tickRun w r) := by
  unfold Work.tickRun
  (try dsimp only)
  (repeat' split) <;> simp (maxDischargeDepth := 40) [*]

@[simp] theorem Work.prestageOne_within (w : Work) (t : Ticket) (bct : m.ct = true) (bda : m.da = true)
    (hw : Within m w0 w) : Within m w0 (Work.prestageOne w t) := by
  unfold Work.prestageOne
  (try dsimp only)
  (repeat' split) <;> simp (maxDischargeDepth := 40) [*]

@[simp] theorem Work.prestageScan_within (w : Work) (bct : m.ct = true) (bda : m.da = true) (hw : Within m w0 w) :
    Within m w0 (Work.prestageScan w) := by
  unfold Work.prestageScan
  split
  · exact Within.foldl (fun u x h => Work.prestageOne_within u x bct bda h) _ hw
  · exact hw

/-! ## Machine/Recovery.lean -/

@[simp] theorem Work.mismatch_within (h : HookNo) (n : TicketNo) (o : Occupancy) (w : Work) (bct : m.ct = true)
    (bkci : m.kci = true) (bau : m.au = true) (hw : Within m w0 w) : Within m w0 (Work.mismatch h n o w) := by
  unfold Work.mismatch
  (try dsimp only)
  (repeat' split) <;> simp (maxDischargeDepth := 40) [*]

@[simp] theorem Work.agreeHolding_within (h : HookNo) (n : TicketNo) (sl : Slot) (field : BitVec 24) (w : Work)
    (bct : m.ct = true) (bkci : m.kci = true) (bau : m.au = true) (hw : Within m w0 w) : Within m w0
    (Work.agreeHolding h n sl field w) := by
  unfold Work.agreeHolding
  (try dsimp only)
  (repeat' split) <;> simp (maxDischargeDepth := 40) [*]

@[simp] theorem Work.reconcileHook_within (h : HookNo) (sl : Slot) (word : Option (BitVec 24)) (w : Work)
    (bct : m.ct = true) (bkci : m.kci = true) (bau : m.au = true) (hw : Within m w0 w) : Within m w0
    (Work.reconcileHook h sl word w) := by
  have h1 (f : BitVec 24) := Work.hungOnEmpty_within h sl f w bct bkci bau hw
  have h2 (n : TicketNo) := Work.mismatch_within h n .empty w bct bkci bau hw
  have h3 (n : TicketNo) (f : BitVec 24) := Work.agreeHolding_within h n sl f w bct bkci bau hw
  have h4 := Work.emptyHook_within h w bkci hw
  have h5 (f : BitVec 24) := Work.hungOnSpare_within h sl f w bct bkci bau hw
  delta Work.reconcileHook
  generalize (w.hook h).occ = o
  cases o <;> cases word <;> dsimp only
  exacts [hw, h1 _, h2 _, h3 _ _, hw, hw, h4, hw, h4, hw, hw, h5 _]

@[simp] theorem Work.reconcileSlot_within (sl : Slot) (word : Option (BitVec 24)) (w : Work) (bct : m.ct = true)
    (bkci : m.kci = true) (bau : m.au = true) (hw : Within m w0 w) : Within m w0 (Work.reconcileSlot sl word w) := by
  unfold Work.reconcileSlot
  (try dsimp only)
  (repeat' split) <;> simp (maxDischargeDepth := 40) [*]

/-! ## Machine/Custody.lean -/

@[simp] theorem Work.createTicket_within (t : Ticket) (w : Work) (bct : m.ct = true) (hw : Within m w0 w) :
    Within m w0 (Work.createTicket t w) := by
  exact hw.trans (by constructor <;> simp [Work.createTicket, bct])

@[simp] theorem Work.placeNew_within (t : Ticket) (w : Work) (bct : m.ct = true) (bsa : m.sa = true)
    (bau : m.au = true) (hw : Within m w0 w) : Within m w0 (Work.placeNew t w) := by
  unfold Work.placeNew
  (try dsimp only)
  (repeat' split) <;> simp (maxDischargeDepth := 40) [*]

/-! ## Machine/Parking.lean -/

@[simp] theorem Work.emitDropped_within (u : TicketNo) (w : Work) (hw : Within m w0 w) : Within m w0
    (Work.emitDropped u w) := by
  unfold Work.emitDropped
  (try dsimp only)
  (repeat' split) <;> simp (maxDischargeDepth := 40) [*]

@[simp] theorem Work.claimDropped_within (u : TicketNo) (f : ClaimField) (w : Work) (bct : m.ct = true)
    (bsa : m.sa = true) (bau : m.au = true) (hw : Within m w0 w) : Within m w0 (Work.claimDropped u f w) := by
  unfold Work.claimDropped
  (try dsimp only)
  (repeat' split) <;> simp (maxDischargeDepth := 40) [*]

@[simp] theorem Work.displace_within (u : TicketNo) (f : ClaimField) (w : Work) (bct : m.ct = true)
    (bsa : m.sa = true) (bau : m.au = true) (hw : Within m w0 w) : Within m w0 (Work.displace u f w) := by
  unfold Work.displace
  (try dsimp only)
  (repeat' split) <;> simp (maxDischargeDepth := 40) [*]

@[simp] theorem Work.takeHold_within (u : Option (TicketNo × ClaimField)) (w : Work) (bct : m.ct = true)
    (hw : Within m w0 w) : Within m w0 (Work.takeHold u w) := by
  unfold Work.takeHold
  (try dsimp only)
  (repeat' split) <;> simp (maxDischargeDepth := 40) [*]

@[simp] theorem Work.freeUnless_within (sp : SpaceNo) (old : Option SpaceNo) (w : Work) (bsa : m.sa = true)
    (hw : Within m w0 w) : Within m w0 (Work.freeUnless sp old w) := by
  unfold Work.freeUnless
  (try dsimp only)
  (repeat' split) <;> simp (maxDischargeDepth := 40) [*]

@[simp] theorem Work.parkCar_within (t : Ticket) (sp : SpaceNo) (w : Work) (bct : m.ct = true) (bsa : m.sa = true)
    (bau : m.au = true) (hw : Within m w0 w) : Within m w0 (Work.parkCar t sp w) := by
  unfold Work.parkCar
  (try dsimp only)
  (repeat' split) <;> simp (maxDischargeDepth := 40) [*]

@[simp] theorem Work.settleParkedBay_within (t : Ticket) (w : Work) (bct : m.ct = true) (bfc : m.fc = true)
    (hw : Within m w0 w) : Within m w0 (Work.settleParkedBay t w) := by
  unfold Work.settleParkedBay
  (try dsimp only)
  (repeat' split) <;> simp (maxDischargeDepth := 40) [*]

@[simp] theorem Work.nextStep_within (r : RunnerNo) (w : Work) (bct : m.ct = true) (bsa : m.sa = true)
    (bkci : m.kci = true) (bda : m.da = true) (hw : Within m w0 w) : Within m w0 (Work.nextStep r w) := by
  unfold Work.nextStep
  (try dsimp only)
  (repeat' split) <;> simp (maxDischargeDepth := 40) [*]

@[simp] theorem Work.blockerDone_within (r : RunnerNo) (w : Work) (bct : m.ct = true) (bsa : m.sa = true)
    (bkci : m.kci = true) (bda : m.da = true) (hw : Within m w0 w) : Within m w0 (Work.blockerDone r w) := by
  unfold Work.blockerDone
  (try dsimp only)
  (repeat' split) <;> simp (maxDischargeDepth := 40) [*]

@[simp] theorem Work.stepParked_within (n : TicketNo) (w : Work) (bct : m.ct = true) (bsa : m.sa = true)
    (bkci : m.kci = true) (bda : m.da = true) (hw : Within m w0 w) : Within m w0 (Work.stepParked n w) := by
  unfold Work.stepParked
  (try dsimp only)
  (repeat' split) <;> simp (maxDischargeDepth := 40) [*]

/-! ## Machine/Recalls.lean -/

@[simp] theorem Work.recallStaged_within (p : Port) (t : Ticket) (w : Work) (bct : m.ct = true) (bda : m.da = true)
    (bfc : m.fc = true) (hw : Within m w0 w) : Within m w0 (Work.recallStaged p t w) := by
  unfold Work.recallStaged
  (try dsimp only)
  (repeat' split) <;> simp (maxDischargeDepth := 40) [*]

@[simp] theorem Work.recallEntry_within (p : Port) (e : Entry) (lv : Level) (c : Section4) (named : Bool) (w : Work)
    (bda : m.da = true) (hw : Within m w0 w) : Within m w0 (Work.recallEntry p e lv c named w) := by
  unfold Work.recallEntry
  (try dsimp only)
  (repeat' split) <;> simp (maxDischargeDepth := 40) [*]

@[simp] theorem Work.dutyOff_within (r : RunnerNo) (w : Work) (bda : m.da = true) (hw : Within m w0 w) : Within m w0
    (Work.dutyOff r w) := by
  unfold Work.dutyOff
  (try dsimp only)
  (repeat' split) <;> simp (maxDischargeDepth := 40) [*]

@[simp] theorem Work.offDutyAbort_within (r : RunnerNo) (w : Work) (bct : m.ct = true) (bsa : m.sa = true)
    (bkci : m.kci = true) (bda : m.da = true) (bfc : m.fc = true) (hw : Within m w0 w) : Within m w0 (Work.offDutyAbort r w)
    := by
  unfold Work.offDutyAbort
  (try dsimp only)
  (repeat' split) <;> simp (maxDischargeDepth := 40) [*]

/-! ## Machine/Bays.lean -/

@[simp] theorem Work.revertOther_within (t : Ticket) (b : BayNo) (w : Work) (bda : m.da = true) (bfc : m.fc = true)
    (hw : Within m w0 w) : Within m w0 (Work.revertOther t b w) := by
  unfold Work.revertOther
  (try dsimp only)
  (repeat' split) <;> simp (maxDischargeDepth := 40) [*]

@[simp] theorem Work.stageBay_within (t : Ticket) (b : BayNo) (w : Work) (bda : m.da = true) (bfc : m.fc = true)
    (hw : Within m w0 w) : Within m w0 (Work.stageBay t b w) := by
  unfold Work.stageBay
  (try dsimp only)
  (repeat' split) <;> simp (maxDischargeDepth := 40) [*]

@[simp] theorem Work.stageTicket_within (n : TicketNo) (b : BayNo) (w : Work) (bct : m.ct = true)
    (bsa : m.sa = true) (bkci : m.kci = true) (bau : m.au = true) (hw : Within m w0 w) : Within m w0 (Work.stageTicket n b w)
    := by
  unfold Work.stageTicket
  (try dsimp only)
  (repeat' split) <;> simp (maxDischargeDepth := 40) [*]

@[simp] theorem Work.stageRun_within (t : Ticket) (b : BayNo) (w : Work) (bct : m.ct = true) (bsa : m.sa = true)
    (bda : m.da = true) (hw : Within m w0 w) : Within m w0 (Work.stageRun t b w) := by
  unfold Work.stageRun
  (try dsimp only)
  (repeat' split) <;> simp (maxDischargeDepth := 40) [*]

@[simp] theorem Work.freeKey_within (t : Ticket) (w : Work) (bkci : m.kci = true) (bau : m.au = true)
    (hw : Within m w0 w) : Within m w0 (Work.freeKey t w) := by
  unfold Work.freeKey
  (try dsimp only)
  (repeat' split) <;> simp (maxDischargeDepth := 40) [*]

@[simp] theorem Work.removeTicket_within (t : Ticket) (w : Work) (bct : m.ct = true) (bau : m.au = true)
    (hw : Within m w0 w) : Within m w0 (Work.removeTicket t w) := by
  unfold Work.removeTicket
  dsimp only
  split
  · exact Work.evalKeyMissing_within _ _ _ bau (hw.trans (by constructor <;> simp [bct]))
  · exact hw.trans (by constructor <;> simp [bct])

@[simp] theorem Work.leaveBay_within (t : Ticket) (w : Work) (bfc : m.fc = true) (hw : Within m w0 w) : Within m w0
    (Work.leaveBay t w) := by
  unfold Work.leaveBay
  (try dsimp only)
  (repeat' split) <;> simp (maxDischargeDepth := 40) [*]

@[simp] theorem Work.freeRecord_within (t : Ticket) (w : Work) (bct : m.ct = true) (bsa : m.sa = true)
    (bkci : m.kci = true) (bda : m.da = true) (bfc : m.fc = true) (bau : m.au = true) (hw : Within m w0 w) : Within m w0
    (Work.freeRecord t w) := by
  unfold Work.freeRecord
  (try dsimp only)
  (repeat' split) <;> simp (maxDischargeDepth := 40) [*]

@[simp] theorem Work.returnCarBay_within (b : BayNo) (merged : Bool) (w : Work) (bfc : m.fc = true)
    (hw : Within m w0 w) : Within m w0 (Work.returnCarBay b merged w) := by
  unfold Work.returnCarBay
  (try dsimp only)
  (repeat' split) <;> simp (maxDischargeDepth := 40) [*]

/-! ## Machine/Keys.lean -/

@[simp] theorem Work.claimHook_within (h : HookNo) (n : TicketNo) (w : Work) (bct : m.ct = true)
    (bkci : m.kci = true) (bau : m.au = true) (hw : Within m w0 w) : Within m w0 (Work.claimHook h n w) := by
  unfold Work.claimHook
  (try dsimp only)
  (repeat' split) <;> simp (maxDischargeDepth := 40) [*]

@[simp] theorem Work.openRemoval_within (h : HookNo) (w : Work) (bkci : m.kci = true) (hw : Within m w0 w) :
    Within m w0 (Work.openRemoval h w) := by
  unfold Work.openRemoval
  (try dsimp only)
  (repeat' split) <;> simp (maxDischargeDepth := 40) [*]

@[simp] theorem Work.abandonCarry_within (h : HookNo) (n : TicketNo) (carry : Fin 34) (w : Work) (bct : m.ct = true)
    (bkci : m.kci = true) (bau : m.au = true) (hw : Within m w0 w) : Within m w0 (Work.abandonCarry h n carry w) := by
  unfold Work.abandonCarry
  (try dsimp only)
  (repeat' split) <;> simp (maxDischargeDepth := 40) [*]

@[simp] theorem Work.updEntry_within (b : BankNo) (i : Fin 2) (f : SubstEntry → SubstEntry) (w : Work)
    (bkci : m.kci = true) (hw : Within m w0 w) : Within m w0 (Work.updEntry b i f w) := by
  exact hw.trans (by constructor <;> simp [Work.updEntry, bkci])

@[simp] theorem Work.mapToSpare_within (h : HookNo) (i : Fin 2) (w : Work) (bkci : m.kci = true)
    (hw : Within m w0 w) : Within m w0 (Work.mapToSpare h i w) := by
  unfold Work.mapToSpare
  (try dsimp only)
  (repeat' split) <;> simp (maxDischargeDepth := 40) [*]

@[simp] theorem Work.openCarry_within (h : HookNo) (n : TicketNo) (i : Fin 2) (w : Work) (bkci : m.kci = true)
    (hw : Within m w0 w) : Within m w0 (Work.openCarry h n i w) := by
  unfold Work.openCarry
  (try dsimp only)
  (repeat' split) <;> simp (maxDischargeDepth := 40) [*]

@[simp] theorem Work.unmapSpare_within (h : HookNo) (i : Option (Fin 2)) (w : Work) (bkci : m.kci = true)
    (hw : Within m w0 w) : Within m w0 (Work.unmapSpare h i w) := by
  unfold Work.unmapSpare
  (try dsimp only)
  (repeat' split) <;> simp (maxDischargeDepth := 40) [*]

/-! ## Machine/Facility.lean -/

@[simp] theorem Work.setOpen_within (z : ZoneNo) (o : Bool) (w : Work) (bsa : m.sa = true) (hw : Within m w0 w) :
    Within m w0 (Work.setOpen z o w) := by
  exact hw.trans (by constructor <;> simp [Work.setOpen, bsa])

/-! ## Machine/Configure.lean -/

@[simp] theorem Work.clearAlerts_within (x : BitVec 11) (w : Work) (bau : m.au = true) (hw : Within m w0 w) :
    Within m w0 (Work.clearAlerts x w) := by
  exact hw.trans (by constructor <;> simp [Work.clearAlerts, bau])

/-- A change whose notices wait for those of the pass stays within what the change and the pass stay within. -/
theorem Work.passBeforeNotices_within (f : Work → Work) (w : Work) (bct : m.ct = true) (bsa : m.sa = true)
    (bau : m.au = true) (hf : ∀ u, Within m u (f u)) (hw : Within m w0 w) :
    Within m w0 (Work.passBeforeNotices f w) := by
  have a := hf { w with out := [] }
  have h1 : Within m w { f { w with out := [] } with out := w.out } := by
    refine ⟨a.pending, a.tb, a.mc, a.slu, a.powered, a.held, a.choices, a.ct, a.sa, a.kci, a.da, a.fc, a.au, ?_⟩
    exact List.prefix_refl _
  have h2 := Work.passIfDue_within _ bct bsa bau h1
  refine hw.trans ⟨h2.pending, h2.tb, h2.mc, h2.slu, h2.powered, h2.held, h2.choices, h2.ct, h2.sa, h2.kci, h2.da,
    h2.fc, h2.au, ?_⟩
  exact h2.out.trans (List.prefix_append _ _)

end Sys2Proof.Machine
end

