-- ==== Sys2Proof/Laws/PerInstr.lean ====
section
/-! SUPPORT. Statements made for every command, one lemma a constructor. -/

namespace Sys2Proof.Laws.BodyLength

open Sys2Proof Machine

/-- The length that the tables of sections 11.6.2 and 11.6.4 give the body of a frame, by its request kind, its CONFIGURE
item or its cabinet message kind; none for a command that stands for no one frame. -/
def tableLength (i : Instr) : Option Nat :=
  match i, i.request? with
  | .configureZone .., _ => some 15
  | .configureZoneRemove .., _ => some 4
  | .configurePort .., _ => some 9
  | .configureParams .., _ => some 7
  | .hung .., _ => some 6
  | .lifted _, _ => some 3
  | .sensorFault _, _ => some 3
  | .bankState _ _ words, _ => some (7 + 3 * words.length)
  | _, some (_, _, k) =>
    match k with
    | .issue => some 10 | .parked => some 6 | .amend => some 11 | .queryTicket => some 7 | .recall => some 6
    | .cancel => some 4 | .staged => some 5 | .handover => some 4 | .returnCar => some 4 | .bayHold => some 4
    | .runnerDuty => some 5 | .reopen => some 3 | .dispatchMask => some 3 | .queryRunner => some 3
    | .keyClaim => some 6 | .releaseHook => some 4 | .substitute => some 4 | .retire => some 4 | .restore => some 4
    | .cabinetDiag => some 3 | .zoneState => some 4 | .spaceService => some 5 | .querySpace => some 4
    | .configure => none | .tune => some 6 | .commitSetup => some 2 | .coldStart => some 2 | .clearAlert => some 4
    | .status => some 2
  | _, none => none

/-- The body a command stands for has the length its table gives. -/
def Statement (i : Instr) : Prop :=
  ∀ n, tableLength i = some n → (requestBody i ++ cabinetBody i).length = n

/-- Tag words take three bytes each. -/
theorem words_length (ws : List (BitVec 24)) : (ws.flatMap be24).length = 3 * ws.length := by
  induction ws with
  | nil => rfl
  | cons w ws ih => simp only [List.flatMap_cons, List.length_append, ih, List.length_cons, be24]; simp; omega

theorem powerOn (retainedPasses storePasses : Bool) : Statement (.powerOn retainedPasses storePasses) := by
  intro n h; cases h

theorem resetLine (retainedPasses storePasses : Bool) : Statement (.resetLine retainedPasses storePasses) := by
  intro n h; cases h

theorem serviceTick : Statement .serviceTick := by
  intro n h; cases h

theorem minuteEvent : Statement .minuteEvent := by
  intro n h; cases h

theorem releaseLapse (hook : HookNo) : Statement (.releaseLapse hook) := by
  intro n h; cases h

theorem removalWindowExpiry (hook : HookNo) : Statement (.removalWindowExpiry hook) := by
  intro n h; cases h

theorem runOverdue (runner : RunnerNo) : Statement (.runOverdue runner) := by
  intro n h; cases h

theorem runLost (runner : RunnerNo) : Statement (.runLost runner) := by
  intro n h; cases h

theorem bankScanTimeout : Statement .bankScanTimeout := by
  intro n h; cases h

theorem hung (slot : Slot) (word : BitVec 24) : Statement (.hung slot word) := by
  intro n h; cases h; rfl

theorem lifted (slot : Slot) : Statement (.lifted slot) := by
  intro n h; cases h; rfl

theorem sensorFault (slot : Slot) : Statement (.sensorFault slot) := by
  intro n h; cases h; rfl

theorem bankState (bank : Byte) (presence : BitVec 40) (words : List (BitVec 24)) :
    Statement (.bankState bank presence words) := by
  intro n h; cases h
  simp only [requestBody, cabinetBody, List.nil_append, List.length_append, words_length]
  simp [presenceBytes]

theorem cabinetFrameReceived (bytes : List Byte) : Statement (.cabinetFrameReceived bytes) := by
  intro n h; cases h

theorem cabinetFrameGap : Statement .cabinetFrameGap := by
  intro n h; cases h

theorem cabinetCommandSent : Statement .cabinetCommandSent := by
  intro n h; cases h

theorem stationFrameReceived (port : Port) (bytes : List Byte) : Statement (.stationFrameReceived port bytes) := by
  intro n h; cases h

theorem stationFrameGap (port : Port) : Statement (.stationFrameGap port) := by
  intro n h; cases h

theorem lineBreak (port : Port) : Statement (.lineBreak port) := by
  intro n h; cases h

theorem frameSent (port : Port) : Statement (.frameSent port) := by
  intro n h; cases h

theorem requestBadKind (port : Port) (kind tag : Byte) : Statement (.requestBadKind port kind tag) := by
  intro n h; cases h

theorem issue (port : Port) (tag carClass priority : Byte) (guestRef : BitVec 16) (departureGiven : Byte)
    (offset : BitVec 16) (section_ : Byte) :
    Statement (.issue port tag carClass priority guestRef departureGiven offset section_) := by
  intro n h; cases h; rfl

theorem amend (port : Port) (tag : Byte) (ticket : TicketNo) (departureAction : Byte) (offset : BitVec 16)
    (guestRefGiven : Byte) (guestRef : BitVec 16) (priority : Byte) :
    Statement (.amend port tag ticket departureAction offset guestRefGiven guestRef priority) := by
  intro n h; cases h; rfl

theorem queryTicketByNumber (port : Port) (tag : Byte) (ticket : TicketNo) (startNumber : BitVec 16) :
    Statement (.queryTicketByNumber port tag ticket startNumber) := by
  intro n h; cases h; rfl

theorem queryTicketByGuest (port : Port) (tag : Byte) (guestRef startNumber : BitVec 16) :
    Statement (.queryTicketByGuest port tag guestRef startNumber) := by
  intro n h; cases h; rfl

theorem parked (port : Port) (tag : Byte) (ticket : TicketNo) (space : BitVec 16) :
    Statement (.parked port tag ticket space) := by
  intro n h; cases h; rfl

theorem recallByNumber (port : Port) (tag : Byte) (ticket : TicketNo) (section_ : Byte) :
    Statement (.recallByNumber port tag ticket section_) := by
  intro n h; cases h; rfl

theorem recallByGuest (port : Port) (tag : Byte) (guestRef : BitVec 16) (section_ : Byte) :
    Statement (.recallByGuest port tag guestRef section_) := by
  intro n h; cases h; rfl

theorem cancel (port : Port) (tag : Byte) (ticket : TicketNo) : Statement (.cancel port tag ticket) := by
  intro n h; cases h; rfl

theorem dispatchMask (port : Port) (tag levels : Byte) : Statement (.dispatchMask port tag levels) := by
  intro n h; cases h; rfl

theorem runnerDutyOn (port : Port) (tag runner team : Byte) : Statement (.runnerDutyOn port tag runner team) := by
  intro n h; cases h; rfl

theorem runnerDutyOff (port : Port) (tag runner team : Byte) : Statement (.runnerDutyOff port tag runner team) := by
  intro n h; cases h; rfl

theorem queryRunner (port : Port) (tag runner : Byte) : Statement (.queryRunner port tag runner) := by
  intro n h; cases h; rfl

theorem reopen (port : Port) (tag runner : Byte) : Statement (.reopen port tag runner) := by
  intro n h; cases h; rfl

theorem staged (port : Port) (tag : Byte) (ticket : TicketNo) (bay : Byte) :
    Statement (.staged port tag ticket bay) := by
  intro n h; cases h; rfl

theorem handover (port : Port) (tag : Byte) (ticket : TicketNo) : Statement (.handover port tag ticket) := by
  intro n h; cases h; rfl

theorem returnCar (port : Port) (tag : Byte) (ticket : TicketNo) : Statement (.returnCar port tag ticket) := by
  intro n h; cases h; rfl

theorem bayHoldSet (port : Port) (tag bay : Byte) : Statement (.bayHoldSet port tag bay) := by
  intro n h; cases h; rfl

theorem bayHoldClear (port : Port) (tag bay : Byte) : Statement (.bayHoldClear port tag bay) := by
  intro n h; cases h; rfl

theorem keyClaim (port : Port) (tag : Byte) (hook : BitVec 16) (ticket : TicketNo) :
    Statement (.keyClaim port tag hook ticket) := by
  intro n h; cases h; rfl

theorem releaseHook (port : Port) (tag : Byte) (hook : BitVec 16) : Statement (.releaseHook port tag hook) := by
  intro n h; cases h; rfl

theorem substitute (port : Port) (tag : Byte) (hook : BitVec 16) : Statement (.substitute port tag hook) := by
  intro n h; cases h; rfl

theorem retire (port : Port) (tag : Byte) (hook : BitVec 16) : Statement (.retire port tag hook) := by
  intro n h; cases h; rfl

theorem restore (port : Port) (tag : Byte) (hook : BitVec 16) : Statement (.restore port tag hook) := by
  intro n h; cases h; rfl

theorem cabinetDiag (port : Port) (tag bank : Byte) : Statement (.cabinetDiag port tag bank) := by
  intro n h; cases h; rfl

theorem zoneStateOpen (port : Port) (tag zone : Byte) : Statement (.zoneStateOpen port tag zone) := by
  intro n h; cases h; rfl

theorem zoneStateClose (port : Port) (tag zone : Byte) : Statement (.zoneStateClose port tag zone) := by
  intro n h; cases h; rfl

theorem spaceServiceOut (port : Port) (tag : Byte) (space : BitVec 16) :
    Statement (.spaceServiceOut port tag space) := by
  intro n h; cases h; rfl

theorem spaceServiceReturn (port : Port) (tag : Byte) (space : BitVec 16) :
    Statement (.spaceServiceReturn port tag space) := by
  intro n h; cases h; rfl

theorem querySpace (port : Port) (tag : Byte) (space : BitVec 16) : Statement (.querySpace port tag space) := by
  intro n h; cases h; rfl

theorem configureZone (port : Port) (tag zone : Byte) (base size : BitVec 16) (depth walk zoneClass : Byte)
    (team0 team1 team2 team3 : Byte) :
    Statement (.configureZone port tag zone base size depth walk zoneClass team0 team1 team2 team3) := by
  intro n h; cases h; rfl

theorem configureZoneRemove (port : Port) (tag zone : Byte) : Statement (.configureZoneRemove port tag zone) := by
  intro n h; cases h; rfl

theorem configurePort (port : Port) (tag target roles baseLevel defaultSection : Byte) (alertEnables : BitVec 16) :
    Statement (.configurePort port tag target roles baseLevel defaultSection alertEnables) := by
  intro n h; cases h; rfl

theorem configureParams (port : Port) (tag k s window l : Byte) :
    Statement (.configureParams port tag k s window l) := by
  intro n h; cases h; rfl

theorem tune (port : Port) (tag k s window l : Byte) : Statement (.tune port tag k s window l) := by
  intro n h; cases h; rfl

theorem commitSetup (port : Port) (tag : Byte) : Statement (.commitSetup port tag) := by
  intro n h; cases h; rfl

theorem coldStart (port : Port) (tag : Byte) : Statement (.coldStart port tag) := by
  intro n h; cases h; rfl

theorem clearAlert (port : Port) (tag : Byte) (flags : BitVec 16) : Statement (.clearAlert port tag flags) := by
  intro n h; cases h; rfl

theorem status (port : Port) (tag : Byte) : Statement (.status port tag) := by
  intro n h; cases h; rfl

theorem lineReturnHigh (port : Port) : Statement (.lineReturnHigh port) := by
  intro n h; cases h

theorem stationStartByte (port : Port) (byte : Byte) : Statement (.stationStartByte port byte) := by
  intro n h; cases h

theorem stationLengthReject (port : Port) (length : Byte) : Statement (.stationLengthReject port length) := by
  intro n h; cases h

theorem cabinetStartByte (byte : Byte) : Statement (.cabinetStartByte byte) := by
  intro n h; cases h

theorem cabinetLengthReject (length : Byte) : Statement (.cabinetLengthReject length) := by
  intro n h; cases h

theorem resetLineRelease : Statement .resetLineRelease := by
  intro n h; cases h

theorem powerLoss : Statement .powerLoss := by
  intro n h; cases h

end Sys2Proof.Laws.BodyLength
end

