-- ==== Sys2Proof/Laws/Requests.lean ====
section
/-! SUPPORT. What a request that is taken does: the offer, the checks, the response, and the end of an event in which
no run can be granted. -/

namespace Sys2Proof.Machine

/-! ## The offer and the checks -/

/-- A request that is taken at once runs on the state whose receiver hunts again. -/
theorem offer_taken {s : State} {p : Port} (h : s.takesRequest p = true) (body : List Byte) (f : State → State) :
    offer p body f s = f (s.updLink p fun l => { l with receiver := .hunting }) := by
  simp only [State.takesRequest, Bool.and_eq_true, Bool.not_eq_true'] at h
  obtain ⟨⟨⟨h1, h2⟩, h3⟩, h4⟩ := h
  simp [offer, h1, h2, h3, h4]

/-- A served request is taken, may be asked, and is not refused for its mode. -/
theorem State.serves_iff {s : State} {p : Port} {k : ReqKind} :
    s.serves p k = true ↔ s.takesRequest p = true ∧ s.mayAsk p k = true ∧ modeRefusal k s.mc.mode = none := by
  simp [State.serves, and_assoc]

/-- The roles read at a port are not changed by its link. -/
@[simp] theorem State.mayAsk_updLink (s : State) (p q : Port) (f : StationLink → StationLink) (k : ReqKind) :
    (s.updLink p f).mayAsk q k = s.mayAsk q k := rfl

/-- A request that passes the checks is its owner's, when its fields are in range. -/
theorem checked_some {w : Work} {p : Port} {k : ReqKind} (hr : w.mayAsk p k = true)
    (hm : modeRefusal k w.mc.mode = none) (f : Work → Answer) : checked p k (some f) w = f w := by
  simp [checked, hr, hm]

/-- A request that passes the checks of role and mode is refused BAD_FIELD, when a field is out of range. -/
theorem checked_none {w : Work} {p : Port} {k : ReqKind} (hr : w.mayAsk p k = true)
    (hm : modeRefusal k w.mc.mode = none) : checked p k none w = refuse .badField w := by
  simp [checked, hr, hm]

/-- A served request whose fields are in range is answered by its owner. -/
theorem offer_serve {s : State} {p : Port} {k : ReqKind} (h : s.serves p k = true) (body : List Byte) (tag : Byte)
    (f : Work → Answer) :
    offer p body (serve p tag k (some f)) s =
      respond p k.code tag (f (Work.begin (s.updLink p fun l => { l with receiver := .hunting }))) := by
  obtain ⟨ht, hr, hm⟩ := State.serves_iff.mp h
  rw [offer_taken ht]
  simp [serve, checked_some, hr, hm]

/-! ## The response -/

/-- What a response does depends on the event's state and notices only. -/
theorem respond_congr {a b : Answer} (p : Port) (kind tag : Byte) (hs : a.work.toState = b.work.toState)
    (ho : a.work.out = b.work.out) (hr : a.result = b.result) (hp : a.payload = b.payload) :
    respond p kind tag a = respond p kind tag b := by
  obtain ⟨⟨_, _, _, _, _, _⟩, _, _⟩ := a
  obtain ⟨⟨_, _, _, _, _, _⟩, _, _⟩ := b
  simp only at hs ho hr hp
  subst hs ho hr hp
  rfl

/-- With no notice the response is all that an answer places: the state of the event, answered. -/
theorem respond_quiet {w : Work} (p : Port) (k : ReqKind) (tag : Byte) (t : State) (r : ResultCode) (pl : Payload)
    (ho : w.out = []) (hw : w.toState = t.updLink p fun l => { l with receiver := .hunting }) :
    respond p k.code tag ⟨w, r, pl⟩ = t.answered p k tag r pl := by
  obtain ⟨ts, out, _, _, _, _⟩ := w
  simp only at ho hw
  subst ho hw
  simp [respond, Work.close, State.answered, State.updLink, StationLink.pushResponse, responseKind]

/-- A served request whose owner generates no notice and ends idle is the owner's state, answered. -/
theorem offer_accept {s t : State} {p : Port} {k : ReqKind} (h : s.serves p k = true) (body : List Byte) (tag : Byte)
    {f : Work → Answer} {w : Work} {r : ResultCode} {pl : Payload}
    (hf : f (Work.begin (s.updLink p fun l => { l with receiver := .hunting })) = ⟨w, r, pl⟩) (ho : w.out = [])
    (hw : w.toState = t.updLink p fun l => { l with receiver := .hunting }) :
    offer p body (serve p tag k (some f)) s = t.answered p k tag r pl := by
  rw [offer_serve h, hf, respond_quiet p k tag t r pl ho hw]

/-! ## The end of an event -/

/-- Nobody to grant to: no runner is FREE. -/
theorem State.freeRunners_unstaffed {s : State} (h : s.unstaffed = true) : s.freeRunners = [] := by
  simp only [State.unstaffed, List.all_eq_true, List.mem_finRange, Bool.and_eq_true, bne_iff_ne, forall_const] at h
  simp [State.freeRunners, fun r => (h r).1]

/-- Nobody to grant to: no runner is chosen. -/
theorem State.chooseRunner_unstaffed {s : State} (h : s.unstaffed = true) (e : Entry) : s.chooseRunner e = none := by
  have : s.runnerCandidates e = [] := by
    simp only [State.runnerCandidates, State.freeRunners_unstaffed h]
    split <;> simp
  simp [State.chooseRunner, this]

/-- Nobody to preempt: no victim is found. -/
theorem State.victim_unstaffed {s : State} (h : s.unstaffed = true) (lv : Level) : s.victim lv = none := by
  simp only [State.unstaffed, List.all_eq_true, List.mem_finRange, Bool.and_eq_true, bne_iff_ne, forall_const] at h
  have : (s.runList.filter fun x => (s.da.runners.get x.1).duty == .assigned && lv.val < x.2.level.val) = [] := by
    simp [List.filter_eq_nil_iff, fun r => (h r).2]
  unfold State.victim
  rw [this]

/-- An arbitration with nobody to grant to changes nothing. -/
theorem arbitrateTurns_unstaffed (n : Nat) (w : Work) (h : w.unstaffed = true) :
    (arbitrateTurns n w).toState = w.toState ∧ (arbitrateTurns n w).out = w.out ∧
      (arbitrateTurns n w).preempted = w.preempted := by
  induction n generalizing w with
  | zero => exact ⟨rfl, rfl, rfl⟩
  | succ n ih =>
    simp only [arbitrateTurns]
    split
    · exact ⟨rfl, rfl, rfl⟩
    · next e _ =>
      split
      · exact ih { w with considered := e.ticket :: w.considered } h
      · simp [State.chooseRunner_unstaffed h, State.victim_unstaffed h]

/-- An arbitration over an empty queue changes nothing. -/
theorem arbitrateTurns_empty (n : Nat) (w : Work) (h : w.da.queue = []) : arbitrateTurns n w = w := by
  cases n <;> simp [arbitrateTurns, Work.nextEntry?, h]

/-- The arbitration of an event in which no run can be granted changes nothing. -/
theorem Work.arbitrateIfDue_idle (w : Work) (h : w.unstaffed = true ∨ w.da.queue = []) :
    w.arbitrateIfDue.toState = w.toState ∧ w.arbitrateIfDue.out = w.out := by
  unfold Work.arbitrateIfDue
  split
  · rw [show roundBound = 1023 + 1 from rfl, arbitrateRounds]
    rcases h with h | h
    · have := arbitrateTurns_unstaffed (turnBound { w with arbDue := false })
        { w with arbDue := false, considered := [], preempted := false } h
      simp only [this.2.2, Bool.false_eq_true, if_false]
      exact ⟨this.1, this.2.1⟩
    · have := arbitrateTurns_empty (turnBound { w with arbDue := false })
        { w with arbDue := false, considered := [], preempted := false } h
      simp [this]
  · exact ⟨rfl, rfl⟩

/-- A pass that is not due, or finds nobody waiting, changes nothing. -/
theorem Work.passIfDue_idle (w : Work) (h : w.passDue = false ∨ w.sa.waitQueue = []) :
    w.passIfDue.toState = w.toState ∧ w.passIfDue.out = w.out ∧ w.passIfDue.arbDue = w.arbDue := by
  unfold Work.passIfDue
  split
  · next hd =>
    rcases h with h | h
    · simp [h] at hd
    · simp [Work.runPass, h]
  · simp

/-- The end of an event in which nobody waits for a space and no run can be granted changes nothing. -/
theorem Work.finish_idle (w : Work) (hp : w.passDue = false ∨ w.sa.waitQueue = [])
    (ha : w.unstaffed = true ∨ w.da.queue = []) : w.finish.toState = w.toState ∧ w.finish.out = w.out := by
  have h1 := w.passIfDue_idle hp
  have h2 := w.passIfDue.arbitrateIfDue_idle (by rw [h1.1]; exact ha)
  exact ⟨h2.1.trans h1.1, h2.2.trans h1.2.1⟩

/-- The end of an event that calls for neither pass nor arbitration is the event as it stands. -/
@[simp] theorem Work.finish_untriggered (w : Work) (hp : w.passDue = false) (ha : w.arbDue = false) : w.finish = w := by
  simp [Work.finish, Work.passIfDue, Work.arbitrateIfDue, hp, ha]

/-- An event with no notice closes as its state. -/
@[simp] theorem Work.close_quiet (w : Work) (h : w.out = []) : w.close = w.toState := by simp [Work.close, h]

/-! ## The notices of an event -/

theorem StationLink.Noticed.refl (l : StationLink) : l.Noticed l := ⟨[], by simp, id, rfl, rfl, rfl, rfl⟩

theorem StationLink.Noticed.trans {a b c : StationLink} (h : a.Noticed b) (g : b.Noticed c) : a.Noticed c := by
  obtain ⟨ns, h1, h2, h3, h4, h5, h6⟩ := h
  obtain ⟨ms, g1, g2, g3, g4, g5, g6⟩ := g
  exact ⟨ns ++ ms, by simp [h1, g1], fun e => g2 (h2 e), g3.trans h3, g4.trans h4, g5.trans h5, g6.trans h6⟩

/-- A notice joins a transmit queue or is discarded with the flag set, and changes nothing else of the link. -/
theorem StationLink.pushNotice_noticed (n : Notice) (l : StationLink) : l.Noticed (l.pushNotice n) := by
  unfold StationLink.pushNotice
  split
  · exact ⟨[n], by simp, id, rfl, rfl, rfl, rfl⟩
  · exact ⟨[], by simp, fun _ => rfl, rfl, rfl, rfl, rfl⟩

/-- A changed link notices on its own port only. -/
theorem State.updLink_noticed {s : State} {p : Port} {f : StationLink → StationLink}
    (h : (s.slu.get p).Noticed (f (s.slu.get p))) : s.Noticed (s.updLink p f) := by
  intro q
  by_cases e : q = p
  · subst e; simpa [State.updLink] using h
  · simpa [State.updLink, Table.get_set_ne, e, Ne.symm e] using StationLink.Noticed.refl _

theorem State.Noticed.trans {a b c : State} (h : a.Noticed b) (g : b.Noticed c) : a.Noticed c :=
  fun p => (h p).trans (g p)

/-- A notice delivered reaches transmit queues only. -/
theorem State.deliver_noticed (s : State) (x : PortSet × Notice) :
    s.Noticed (s.deliver x) ∧ { s.deliver x with slu := s.slu } = s := by
  unfold State.deliver
  generalize List.finRange 4 = l
  suffices ∀ u : State, s.Noticed u ∧ { u with slu := s.slu } = s →
      s.Noticed (l.foldl (fun s p => if x.1.getLsbD p.val then s.updLink p (StationLink.pushNotice x.2) else s) u) ∧
      { l.foldl (fun s p => if x.1.getLsbD p.val then s.updLink p (StationLink.pushNotice x.2) else s) u with
        slu := s.slu } = s from this s ⟨fun p => StationLink.Noticed.refl _, rfl⟩
  induction l with
  | nil => exact fun u h => h
  | cons p ps ih =>
    intro u h
    refine ih _ ?_
    by_cases e : x.1.getLsbD p.val = true
    · simp only [e, if_true]
      exact ⟨h.1.trans (State.updLink_noticed (StationLink.pushNotice_noticed _ _)), h.2⟩
    · simp only [e]
      exact h

/-- The end of an event changes the transmit queues only, and adds nothing but notices to them. -/
theorem Work.close_noticed (w : Work) : w.toState.Noticed w.close ∧ { w.close with slu := w.slu } = w.toState := by
  unfold Work.close
  generalize w.out = l
  suffices ∀ u : State, w.toState.Noticed u ∧ { u with slu := w.slu } = w.toState →
      w.toState.Noticed (l.foldl State.deliver u) ∧ { l.foldl State.deliver u with slu := w.slu } = w.toState from
    this _ ⟨fun p => StationLink.Noticed.refl _, rfl⟩
  induction l with
  | nil => exact fun u h => h
  | cons x xs ih =>
    intro u h
    refine ih _ ⟨h.1.trans (u.deliver_noticed x).1, ?_⟩
    have e := (u.deliver_noticed x).2
    rw [← h.2]
    exact congrArg (fun v : State => { v with slu := w.slu }) e

end Sys2Proof.Machine
end

