-- ==== Sys2Proof/Tests/Slice0.lean ====
section
/-! SUPPORT. Tests: the refusals of ill-formed commands, the manual's worked values, one step of the commands, and a
witness for the hypotheses of every statement. -/

open Sys2Proof Sys2Proof.Machine

namespace Sys2Proof.Tests

set_option Elab.async false

/-! ## Small states -/

/-- A part in a mode, every port with every role, nothing queued on a link. -/
def ready (m : Mode) : State :=
  { State.reset with
    mc := { State.reset.mc with
      mode := m, ports := Table.replicate 4 ⟨15, 4, 0, 0⟩, commitMark := m != .setup, retainedValid := m != .setup,
      scanBank := if m = .recovery then some 0 else none }
    slu := Table.replicate 4 (resetLink false) }

/-- A ticket in a state, with its key. -/
def car (n : TicketNo) (st : TicketState) (k : KeyPlace) : Ticket :=
  { number := n, state := st, formerState := none, carClass := .standard, priority := 5, guestRef := none,
    departure := none, curbSection := 0, issuePort := 0, arrival := 0, space := none, nextSpace := none, key := k,
    bay := none, run := none, prestageDone := false }

/-- A state with tickets. -/
def withTickets (ts : List Ticket) (s : State) : State := { s with ct := ⟨ts, 1⟩ }

/-- A state with one hook as given. -/
def withHook (h : HookNo) (o : Occupancy) (s : State) : State :=
  { s with kci := { s.kci with hooks := s.kci.hooks.set h ⟨o, false, false, false, 0⟩ } }

/-- A state with one space as given. -/
def withSpace (sp : SpaceNo) (r : SpaceRec) (s : State) : State :=
  { s with sa := { s.sa with spaces := s.sa.spaces.set sp r } }

/-- A state with zone 0 open over spaces 0 to 15, in lanes of one, two of whose lane records are kept. -/
def withZone (s : State) : State :=
  { s with sa := { s.sa with
    zones := s.sa.zones.set 0 (some ⟨⟨0, 16, 1, 4, .standard, Table.replicate 4 none⟩, true⟩)
    lanes := [⟨0, 1, none⟩, ⟨1, 1, none⟩] } }

/-- A state with one bay as given. -/
def withBay (b : BayNo) (k : Bay) (s : State) : State := { s with fc := { s.fc with bays := s.fc.bays.set b k } }

/-- A state with one entry pending. -/
def withEntry (e : Entry) (s : State) : State := { s with da := { s.da with queue := [e] } }

/-- A run of one step for a ticket. -/
def runFor (n : TicketNo) (st : StepState) (h : Option HookNo) : Run :=
  { kind := .retrieve, level := 4, stamp := 0, grantStamp := 0, target := n, curbSection := 0, bay := none,
    steps := [⟨n, .target, some (.space 0), h, st, none⟩], currentStep := 0, committed := false, d := 8,
    threshold := 16, elapsed := 0, overdue := false, lost := false, notify := 0 }

/-- A state with a runner of a Duty and its run. -/
def withRun (r : RunnerNo) (du : Duty) (q : Option Run) (s : State) : State :=
  { s with da := { s.da with runners := s.da.runners.set r ⟨du, 0, 0⟩, runs := s.da.runs.set r q } }

/-- What a command answers, as a test of the next state. -/
def after (c : Instr) (s : State) (f : State → Bool) : Bool :=
  match exec c s with
  | .next t => f t
  | _ => false

/-! ## Ill-formed commands -/

theorem test_illFormed_issue :
    ([.issue 0 0 2 0 0 0 0 0, .issue 0 0 0 8 0 0 0 0, .issue 0 0 0 0 0 2 0 0, .issue 0 0 0 0 0 0 0 4] : List Instr).all
      (fun i => !i.wellFormed) = true := by decide +kernel

theorem test_illFormed_amend :
    ([.amend 0 0 0 0 0 0 0 0, .amend 0 0 1 3 0 0 0 0, .amend 0 0 1 0 0 2 0 0, .amend 0 0 1 0 0 0 0 8] : List Instr).all
      (fun i => !i.wellFormed) = true := by decide +kernel

theorem test_illFormed_tickets :
    ([.queryTicketByNumber 0 0 0 0, .queryTicketByGuest 0 0 0 0, .parked 0 0 0 0, .parked 0 0 1 1024,
      .recallByNumber 0 0 0 0, .recallByNumber 0 0 1 4, .recallByGuest 0 0 0 0, .recallByGuest 0 0 1 4, .cancel 0 0 0,
      .handover 0 0 0, .returnCar 0 0 0, .staged 0 0 0 0, .staged 0 0 1 8] : List Instr).all
      (fun i => !i.wellFormed) = true := by decide +kernel

theorem test_illFormed_records :
    ([.runnerDutyOn 0 0 32 0, .runnerDutyOn 0 0 0 4, .runnerDutyOff 0 0 32 0, .queryRunner 0 0 32, .reopen 0 0 32,
      .bayHoldSet 0 0 8, .bayHoldClear 0 0 8, .keyClaim 0 0 512 1, .keyClaim 0 0 0 0, .releaseHook 0 0 512,
      .substitute 0 0 512, .retire 0 0 512, .restore 0 0 512, .cabinetDiag 0 0 16, .zoneStateOpen 0 0 8,
      .zoneStateClose 0 0 8, .configureZoneRemove 0 0 8, .spaceServiceOut 0 0 1024, .spaceServiceReturn 0 0 1024,
      .querySpace 0 0 1024, .clearAlert 0 0 2048] : List Instr).all (fun i => !i.wellFormed) = true := by decide +kernel

theorem test_illFormed_configure :
    ([.configureZone 0 0 8 0 16 1 1 0 0 0 0 0, .configureZone 0 0 0 0 17 1 1 0 0 0 0 0,
      .configureZone 0 0 0 0 16 3 1 0 0 0 0 0, .configureZone 0 0 0 0 16 1 1 3 0 0 0 0,
      .configureZone 0 0 0 0 16 1 1 0 4 0 0 0, .configureZone 0 0 0 0 16 1 1 0 0 4 0 0,
      .configureZone 0 0 0 0 16 1 1 0 0 0 4 0, .configureZone 0 0 0 0 16 1 1 0 0 0 0 4,
      .configureZone 0 0 0 8 16 1 1 0 0 0 0 0, .configureZone 0 0 0 1024 16 1 1 0 0 0 0 0,
      .configurePort 0 0 4 0 0 0 0, .configurePort 0 0 0 16 0 0 0, .configurePort 0 0 0 0 8 0 0,
      .configurePort 0 0 0 0 0 4 0, .configurePort 0 0 0 0 0 0 2048] : List Instr).all
      (fun i => !i.wellFormed) = true := by decide +kernel

theorem test_illFormed_links :
    ([.requestBadKind 0 0x1D 0, .bankState 16 0 [], .bankState 0 (1 <<< 34) [], .bankState 0 1 [],
      .stationFrameReceived 0 (List.replicate 67 0), .cabinetFrameReceived (List.replicate 114 0)] : List Instr).all
      (fun i => !i.wellFormed) = true := by decide +kernel

theorem test_wellFormed_issue : (Instr.issue 0 0 1 7 0 1 0 0xFF).wellFormed = true := by decide +kernel

/-! ## The manual's worked values -/

/-- Section 4.2.1: the tag word of ticket 1234. -/
theorem test_tagWord_1234 : encodeTag 1234 = 0x9A30 := by decide +kernel

/-- Section 4.2.1: the six reads of that word, with class and number. -/
theorem test_tagReads_1234 :
    ([0x9A30, 0x9230, 0x8230, 0x9A20, 0x9A31, 0x8238] : List (BitVec 22)).map (fun w => (tagClass w, decodeTag w)) =
      [(.clean, some 1234), (.dataCorrected, some 1234), (.uncorrectable, none), (.checkBit, some 1234),
       (.parityBit, some 1234), (.checkBit, some 1043)] := by decide +kernel

/-- The CRC of R181 over the nine digits has the published check value of that CRC. -/
theorem test_crc_digits : crc16 [0x31, 0x32, 0x33, 0x34, 0x35, 0x36, 0x37, 0x38, 0x39] = 0x29B1 := by decide +kernel

/-- R21 and section 2.2.1: the counter at 65534 with 65534 and 1 in use gives 65535, and then 2. -/
theorem test_numbering :
    (CustodyTable.mk [car 1 .parked .taken, car 65534 .parked .taken] 65534).chooseNumber = 65535 ∧
      (CustodyTable.mk [car 1 .parked .taken, car 65534 .parked .taken, car 65535 .parked .taken] 1).chooseNumber = 2 := by
  decide +kernel

/-- Section 11.6.2: the body of a CONFIGURE ZONE, byte by byte. -/
theorem test_body_configureZone :
    requestBody (.configureZone 0 9 1 0x0040 0x0080 4 6 2 0xFF 1 2 3) =
      [0x18, 9, 0, 1, 0x00, 0x40, 0x00, 0x80, 4, 6, 2, 0xFF, 1, 2, 3] := by decide +kernel

/-- Section 11.6.5: the body of a READY notice, byte by byte. -/
theorem test_body_ready : (Frame.notice (.ready 0x0102 5 true .recalled)).body = [0xA3, 0, 1, 2, 5, 2, 1, 1] := by decide +kernel

/-! ## One step of the commands -/

/-- R182, R187: a break empties a link and marks the notices lost with it; the line's return high ends it. -/
theorem test_lineBreak :
    after (.lineBreak 3) State.reset (fun t =>
      (t.slu.get 3).tx == [] && (t.slu.get 3).overflow && (t.slu.get 3).lineLow && (t.slu.get 2).tx.length == 1) =
      true := by decide +kernel

/-- R186: the MODE notice of the first power-on is sent and leaves the queue. -/
theorem test_frameSent :
    after (.frameSent 0) State.reset (fun t =>
      (t.slu.get 0).tx == [] && (t.slu.get 0).lineOut.take 4 == [0xA5, 8, 0xA6, 0]) = true := by decide +kernel

/-- R189, R82: the first command sent after reset latches slot 0 of bank 0. -/
theorem test_cabinetCommandSent :
    after .cabinetCommandSent State.reset (fun t =>
      t.kci.lineOut.take 5 == [0x5A, 3, 0x01, 0, 0] && t.kci.commands.length == 543) = true := by decide +kernel

/-- R184: from reset a port without a role is refused NOT_PERMITTED, and QUERY_RUNNER is NOT_READY in SETUP. -/
theorem test_refusals_at_reset :
    after (.coldStart 1 9) State.reset (fun t =>
      (t.slu.get 1).tx.getLast? == some (.response 0x5B 9 .notPermitted .empty)) = true ∧
    after (.queryRunner 1 9 0) State.reset (fun t =>
      (t.slu.get 1).tx.getLast? == some (.response 0x4E 9 .notReady .empty)) = true := by decide +kernel

/-- R185: the kind of a BAD_KIND response is the kind received plus 40h, but FFh for 60h to 66h. -/
theorem test_badKind :
    after (.requestBadKind 1 0xF0 9) (ready .service) (fun t =>
      (t.slu.get 1).tx == [.response 0x30 9 .badKind .empty]) = true ∧
    after (.requestBadKind 1 0x66 9) (ready .service) (fun t =>
      (t.slu.get 1).tx == [.response 0xFF 9 .badKind .empty]) = true := by decide +kernel

/-- R25, R46, R63: an ISSUE that finds no space waits, and SPACE_WAIT is set. -/
theorem test_issue_waits :
    after (.issue 0 1 0 5 0 0 0 0xFF) (ready .service) (fun t =>
      t.sa.waitQueue == [1] && (t.alert .spaceWait).set && t.ct.nextNumber == 2 &&
        (t.slu.get 0).tx.map Frame.body == [[0x41, 1, 0x03, 0, 1, 0, 0, 0x0F, 0xFF, 0xFF, 0xFF, 0xFF, 0, 0xFF, 0xFF,
          0xFF]]) = true := by decide +kernel

/-- R25, R41: an ISSUE that finds a space holds it. -/
theorem test_issue_holds :
    after (.issue 0 1 0 5 0 0 0 0xFF) (withZone (withSpace 0 .free (ready .service))) (fun t =>
      t.spaceRec 0 == .held 1 && (t.ticket? 1).map Ticket.state == some .inbound) = true := by decide +kernel

/-- R27: an offset above 4095 is clamped to it. -/
theorem test_amend_clamps :
    after (.amend 0 1 1 1 0xFFFF 0 0 0xFF) (withTickets [car 1 .parked .taken] (ready .service)) (fun t =>
      (t.ticket? 1).bind Ticket.departure == some 4095) = true := by decide +kernel

/-- R53: a PARKED report on the ticket's own hold. -/
theorem test_parked :
    after (.parked 0 1 1 0)
      (withTickets [{ car 1 .inbound .taken with space := some 0 }] (withZone (withSpace 0 (.held 1) (ready .service))))
      (fun t => t.spaceRec 0 == .occupied 1 && (t.ticket? 1).map Ticket.state == some .parked) = true := by
  decide +kernel

/-- R102: the entry takes the lower of the port's and the ticket's Level. -/
theorem test_recall :
    after (.recallByNumber 0 1 1 0xFF) (withTickets [car 1 .parked .taken] (ready .service)) (fun t =>
      t.da.queue == [⟨1, .retrieve, 4, 0, 0, 1⟩]) = true := by decide +kernel

/-- R107: an empty mask is accepted. -/
theorem test_dispatchMask :
    after (.dispatchMask 0 1 0) (ready .service) (fun t => t.da.mask == 0) = true := by decide +kernel

/-- R109: an OFF runner put on duty is FREE. -/
theorem test_dutyOn :
    after (.runnerDutyOn 0 1 31 3) (ready .service) (fun t =>
      t.da.runners.get 31 == ⟨.free, 3, 0⟩ && t.da.seq == 1) = true := by decide +kernel

/-- R68: a key hung on an EMPTY hook with the word of a ticket. -/
theorem test_hung :
    after (.hung ⟨7, 9⟩ 0x9A30) (withTickets [car 1234 .parked .noneYet] (ready .service)) (fun t =>
      (t.hook 233).occ == .holding 1234 && (t.ticket? 1234).map Ticket.key == some (.onHook 233) &&
        !t.kci.latch.valid) = true := by decide +kernel

/-- R68 and section 4.2.1: a word with two misreads leaves the hook UNVERIFIED and is latched. -/
theorem test_hung_unreadable :
    after (.hung ⟨7, 9⟩ 0x8230) (withTickets [car 1234 .parked .noneYet] (ready .service)) (fun t =>
      (t.hook 233).occ == .unverified && (t.alert .tagUnreadable).set &&
        t.kci.latch == ⟨true, ⟨7, 9⟩, 0x8230, 7, true, .uncorrectable⟩) = true := by decide +kernel

/-- R70: a held key lifted without a release is MISSING. -/
theorem test_lifted_forced :
    after (.lifted ⟨1, 8⟩) (withHook 40 (.holding 1301) (withTickets [car 1301 .parked (.onHook 40)] (ready .service)))
      (fun t => (t.hook 40).occ == .empty && (t.ticket? 1301).map Ticket.key == some .missing &&
        (t.alert .forcedLift).set && (t.alert .keyMissing).set) = true := by decide +kernel

/-- R90, R89: SUBSTITUTE of a HOLDING hook opens a carry to spare 32. -/
theorem test_substitute_carry :
    after (.substitute 0 1 40) (withHook 40 (.holding 1301) (ready .service)) (fun t =>
      (t.hook 40).occ == .awaitRehang 1301 8 && t.hookSlot 40 == ⟨1, 32⟩ &&
        t.kci.commands.drop 542 == [.unlatch ⟨1, 8⟩, .unlatch ⟨1, 32⟩]) = true := by decide +kernel

/-- R173: COMMIT_SETUP enters SERVICE with the mark written. -/
theorem test_commit :
    after (.commitSetup 0 1) { State.reset with slu := Table.replicate 4 (resetLink false) } (fun t =>
      t.mc.mode == .service && t.mc.commitMark && t.mc.storeValid) = true := by decide +kernel

/-! ## Witnesses: for every statement with hypotheses, states and operands that meet them, clause by clause -/

/-- A part in SERVICE with nothing waiting for the cabinet. -/
def plain : State := { ready .service with kci := { (ready .service).kci with commands := [] } }

/-- A part in SERVICE with zone 0 and its first two spaces FREE. -/
def garage : State := withZone (withSpace 0 .free (withSpace 1 .free plain))

/-- Spare 0 of bank 1 in place of hook 40. -/
def withSpare (s : State) : State := { s with kci := { s.kci with subst := s.kci.subst.set 2 ⟨true, 8⟩ } }

/-- A slot commanded unlatched. -/
def withOpen (sl : Slot) (s : State) : State :=
  { s with kci := { s.kci with latched := s.kci.latched.set (slotIdx sl) false } }

/-- A part in SERVICE with an open carry: hook 40, ticket 1301, spare 0 of bank 1. -/
def carrying : State :=
  withTickets [car 1301 .parked (.onHook 40)]
    (withHook 40 (.awaitRehang 1301 8) (withOpen ⟨1, 8⟩ (withOpen ⟨1, 32⟩ (withSpare plain))))

/-- Zone 0 in lanes of four, the first two of them kept, with the spaces given. -/
def deep (spaces : List (SpaceNo × SpaceRec)) (s : State) : State :=
  { s with sa := { s.sa with
    zones := s.sa.zones.set 0 (some ⟨⟨0, 16, 4, 4, .standard, Table.replicate 4 none⟩, true⟩)
    lanes := [⟨0, 4, none⟩, ⟨4, 4, none⟩]
    spaces := spaces.foldl (fun a x => a.set x.1 x.2) s.sa.spaces } }

/-- A lane with a hold and a car in front of the car of ticket 1: space 0 FREE, 1 OCCUPIED by ticket 2, 2 HELD for
ticket 3, 3 OCCUPIED by ticket 1. The next lane is FREE. -/
def crowded (c : CarClass) : State :=
  withHook 40 (.holding 1) (withHook 41 (.holding 2)
    (withTickets [{ car 1 .parked (.onHook 40) with space := some 3 },
        { car 2 .parked (.onHook 41) with space := some 1 },
        { car 3 .inbound .noneYet with space := some 2, carClass := c }]
      (deep [(0, .free), (1, .occupied 2), (2, .held 3), (3, .occupied 1), (4, .free), (5, .free), (6, .free), (7, .free)]
        plain)))

/-- The same lane with no hold, and the blocker's key in a carry or on its hook. -/
def blocked (o : Occupancy) : State :=
  withHook 40 (.holding 1) (withHook 41 o
    (withTickets [{ car 1 .parked (.onHook 40) with space := some 3 },
        { car 2 .parked (.onHook 41) with space := some 1 }]
      (deep [(0, .free), (1, .occupied 2), (2, .free), (3, .occupied 1), (4, .free), (5, .free), (6, .free), (7, .free)]
        plain)))

/-- A run in flight for that lane: ticket 2, the blocker, carried to space 7, ticket 1, the target, yet to come. -/
def relocation (st2 : StepState) : Run :=
  { runFor 1 .waiting none with
    steps := [⟨2, .blocker, some (.space 1), some 41, st2, none⟩, ⟨1, .target, some (.space 3), none, .waiting, none⟩],
    committed := st2 == .carried }

/-- That run with its tickets, the target's key as given, in a lane shuffled for it. -/
def relocating (k : KeyPlace) (o : Occupancy) : State :=
  let s := withHook 40 o (withTickets [{ car 1 .parked k with space := some 3, run := some 4, bay := some 0 },
      { car 2 .relocating .taken with space := some 1, nextSpace := some 7, run := some 4 }]
    (deep [(0, .free), (1, .occupied 2), (2, .free), (3, .occupied 1), (4, .free), (5, .free), (6, .free), (7, .held 2)]
      (withRun 4 .committed (some (relocation .carried)) plain)))
  { s with sa := { s.sa with lanes := [⟨0, 4, some 4⟩, ⟨4, 4, none⟩] } }

/-- A hook with a window to its last tick. -/
def lastTick (h : HookNo) (o : Occupancy) (removal : Bool) (s : State) : State :=
  { s with kci := { s.kci with hooks := s.kci.hooks.set h ⟨o, false, false, removal, 1⟩ } }

theorem witness_StepOnEmptyQueue :
    (plain.pending = [] ∧ plain.waitingLinks = []) ∧
    (let s := plain.updLink 0 fun l => { l with buffer := [[0x1D, 7]] }
     s.pending = [] ∧ s.live = true ∧ s.waitingLinks = [.port 0]) ∧
    (let s := (plain.updLink 0 fun l => { l with buffer := [[0x1D, 7]] }).updLink 3 fun l => { l with buffer := [[0x1D, 8]] }
     s.pending = [] ∧ s.live = true ∧ 2 ≤ s.waitingLinks.length) := by decide +kernel

theorem witness_StepKeepsBlockLaws :
    plain.LinkBounds ∧ plain.CommandLaw ∧ plain.CounterBounds ∧ plain.AttentionLaw ∧
      ∃ t, step { plain with pending := [.minuteEvent] } = .next t := by
  refine ⟨by unfold State.LinkBounds; decide +kernel, by unfold State.CommandLaw; decide +kernel,
    ⟨by decide +kernel, by decide +kernel, by decide +kernel, ?_⟩, by unfold State.AttentionLaw; decide +kernel, _, rfl⟩
  intro r run h
  simp [State.run?, plain, ready, State.reset, resetDa] at h

theorem witness_StepKeepsModeAndZoneLaws :
    ((ready .recovery).ModeLaw ∧ ∃ t, step { ready .recovery with pending := [.bankScanTimeout] } = .next t) ∧
    ((crowded .standard).ModeLaw ∧ (crowded .standard).ZoneLaw ∧
      ∃ t, step { crowded .standard with pending := [.coldStart 0 1] } = .next t) :=
  ⟨⟨by unfold State.ModeLaw; decide +kernel, _, rfl⟩, by unfold State.ModeLaw; decide +kernel,
    zoneLaw_of (by decide +kernel), _, rfl⟩

/-- The runner of the run in flight goes off duty: TOO_LATE, and the laws are kept. -/
theorem witness_StepKeepsArbiterLaws :
    ((ready .recovery).EntryLaw ∧ (ready .recovery).RosterLaw ∧
      ∃ t, step { ready .recovery with pending := [.serviceTick] } = .next t) ∧
    (let s := withEntry ⟨1, .retrieve, 4, 0, 0, 0⟩ (relocating (.onHook 40) (.holding 1))
     s.EntryLaw ∧ s.RosterLaw ∧ s.RunnerRunLaw ∧ ∃ t, step { s with pending := [.runnerDutyOff 0 1 4 0] } = .next t) :=
  ⟨⟨by unfold State.EntryLaw; decide +kernel, by unfold State.RosterLaw; decide +kernel, _, rfl⟩,
    by unfold State.EntryLaw; decide +kernel, fun h => absurd rfl h, runnerRunLaw_of (by decide +kernel), _, rfl⟩

theorem witness_StepKeepsTicketAndKeyLaws :
    let s := crowded .standard
    s.TicketLaw ∧ s.HookKeyLaw ∧ ∃ t, step { s with pending := [.lifted ⟨1, 8⟩] } = .next t :=
  ⟨by unfold State.TicketLaw; decide +kernel, hookKeyLaw_of (by decide +kernel), _, rfl⟩

theorem witness_StepKeepsHookMapLaws :
    carrying.SubstLaw ∧ carrying.LatchLaw ∧ ∃ t, step { carrying with pending := [.releaseHook 0 1 40] } = .next t :=
  ⟨substLaw_of (by decide +kernel), latchLaw_of (by decide +kernel), _, rfl⟩

/-- The laws of custody hold of the lane with its hold, and of the run in flight. -/
theorem custody_crowded (c : CarClass) : (crowded c).CustodyLaw := by
  cases c <;>
    exact ⟨claimLaw_of (by decide +kernel), waitLaw_of (by decide +kernel), runLaw_of (by decide +kernel)⟩

theorem witness_StepKeepsCustodyLaws :
    let s := relocating (.onHook 40) (.holding 1)
    s.TicketLaw ∧ s.ZoneLaw ∧ s.ModeLaw ∧ s.RosterLaw ∧
      s.HookKeyLaw ∧ s.RunnerRunLaw ∧ s.CustodyLaw ∧
      ∃ t, step { s with pending := [.parked 0 1 2 7] } = .next t :=
  ⟨by unfold State.TicketLaw; decide +kernel, zoneLaw_of (by decide +kernel), by unfold State.ModeLaw; decide +kernel,
    fun h => absurd rfl h, hookKeyLaw_of (by decide +kernel), runnerRunLaw_of (by decide +kernel),
    ⟨claimLaw_of (by decide +kernel), waitLaw_of (by decide +kernel), runLaw_of (by decide +kernel)⟩, _, rfl⟩

theorem witness_FrameBodiesReadBack :
    (Instr.amend 3 255 65535 2 4096 1 0 7).request? = some (3, 255, .amend) ∧ reqKind? 0 = none ∧
      reqKind? 0xFF = none := by decide +kernel

theorem witness_FrameDoesWhatItsCommandDoes :
    (Instr.status 3 7).request? = some (3, 7, .status) ∧ plain.takesRequest 3 = true ∧
      (plain.slu.get 3).receiver = .hunting ∧ plain.waitingLinks = [] := by decide +kernel

theorem witness_GoodFramesAreBuffered :
    (plain.live = true ∧ (plain.slu.get 0).lineLow = false ∧ (plain.slu.get 0).receiver = .hunting ∧
      (plain.slu.get 0).buffer.length < 2 ∧ 2 ≤ (List.replicate 62 (0 : Byte)).length) ∧
    ¬ ((plain.updLink 0 fun l => { l with buffer := [[0x1D, 7], [0x1D, 8]] }).slu.get 0).buffer.length < 2 ∧
    (plain.kci.receiver = .hunting ∧ cabinetWellSized [0x82, 0, 0] = true ∧
      cabinetWellSized ([0x84, 0, 3, 255, 255, 255, 255] ++ List.replicate 102 0) = true) := by decide +kernel

theorem witness_LinkEvents :
    plain.live = true ∧ (plain.slu.get 0).lineLow = false ∧ (plain.slu.get 0).receiver = .hunting ∧
    ((plain.updLink 0 fun l => { l with receiver := .assembling [] }).slu.get 0).receiver = .assembling [] ∧
    (State.reset.slu.get 0).tx ≠ [] ∧ (plain.slu.get 0).tx = [] ∧ State.reset.kci.commands ≠ [] ∧
    plain.kci.commands = [] := by decide +kernel

theorem witness_EveryRequestIsAnsweredOnce :
    (Instr.coldStart 2 255).request? = some (2, 255, .coldStart) ∧ plain.takesRequest 2 = true := by decide +kernel

theorem witness_RequestChecks :
    (State.reset.takesRequest 1 = true ∧ (Instr.commitSetup 1 1).request? = some (1, 1, .commitSetup) ∧
      State.reset.mayAsk 1 .commitSetup = false) ∧
    (State.reset.mayAsk 0 .coldStart = true ∧ modeRefusal .coldStart State.reset.mc.mode = some .notReady) ∧
    (plain.mayAsk 0 .retire = true ∧ modeRefusal .retire plain.mc.mode = none ∧
      (Instr.retire 0 1 512).wellFormed = false) ∧
    (reqKind? 0 = none ∧ reqKind? 0x1E = none ∧ reqKind? 0x60 = none ∧ reqKind? 0x66 = none) ∧
    (let s := plain.updLink 0 fun l => { l with buffer := [[0x18, 9, 3, 0, 0, 0], [0x1D, 8]] }
     s.pending = [] ∧ s.live = true ∧ s.waitingLinks = [.port 0] ∧ ReqKind.code .configure = 0x18 ∧
      (s.slu.get 0).buffer = (ReqKind.code .configure :: 9 :: [3, 0, 0, 0]) :: [[0x1D, 8]] ∧
      [3, 0, 0, 0].length + 2 ≠ 7) ∧
    (let s := State.reset.updLink 2 fun l => { l with buffer := [[0x1C, 9, 0]] }
     s.pending = [] ∧ s.live = true ∧ s.waitingLinks = [.port 2] ∧ s.mayAsk 2 .coldStart = false) := by decide +kernel

theorem witness_ModeCheck :
    ([.setup, .recovery, .service] : List Mode).all (fun m => allKinds.all fun k =>
      (ready m).takesRequest 0 && (ready m).mayAsk 0 k) = true := by decide +kernel

/-- A word of each class, by syndrome and parity: three misreads at positions 2, 4 and 16 give the syndrome 22. -/
theorem witness_TagClasses :
    (([0x9A30, 0x9A31, 0x9A20, 0x9230, 0x19A24, 0x8230] : List (BitVec 22)).map fun w => (syndrome w, parityGood w)) =
      [(0, true), (0, false), (4, false), (11, false), (22, false), (7, true)] := by decide +kernel

theorem witness_AlertFlagsRaisedAndEvaluated :
    (AlertFlag.isCondition .runLost = false ∧ (plain.alert .runLost).set = false ∧
      (((Work.begin plain).raise .runLost (.runner 3)).alert .runLost).set = true) ∧
    AlertFlag.isCondition .keyMissing = true ∧ (plain.alert .keyMissing).set = false ∧
      (((Work.begin plain).evalCondition .keyMissing true 5 true).alert .keyMissing).set = true := by decide +kernel

theorem witness_IssueCreatesATicket :
    (CustodyTable.mk (List.replicate 511 (car 65535 .parked .taken)) 65535).tickets.length < 512 ∧
    (65535 : TicketNo) ≠ 0 ∧ plain.serves 0 .issue = true ∧ carClass? 1 = some .oversize ∧ level? 7 = some 7 ∧ flag? 1 = some true ∧
    optSection? 0xFF = some none ∧ optSection? 3 = some (some 3) ∧ plain.ct.tickets.length < 512 ∧
    plain.allocate (newTicket plain 0 .standard 5 none none none) none = none ∧
    garage.allocate (newTicket garage 0 .standard 5 none none none) none = some 0 ∧
    512 ≤ (withTickets (List.replicate 512 (car 1 .parked .taken)) plain).ct.tickets.length := by decide +kernel

theorem witness_AmendChangesTheItemsGiven :
    (withTickets [car 1 .parked .taken] plain).serves 0 .amend = true ∧
    departureItem? 0 0 = some .keep ∧ departureItem? 1 4096 = some (.set 4096) ∧ departureItem? 2 0 = some .clear ∧
    flag? 0 = some false ∧ optLevel? 0xFF = some none ∧ optLevel? 7 = some (some 7) ∧
    ((withTickets [car 1 .parked .taken] plain).ticket? 1).isSome = true ∧
    (withTickets [car 1 .parked .taken] plain).ticket? 2 = none := by decide +kernel

theorem witness_QueriesOfTicketsAndRunners :
    plain.serves 0 .queryTicket = true ∧ plain.ticket? 1 = none ∧
    ((withTickets [car 1 .parked .taken] plain).ticket? 1).isSome = true ∧ plain.takesRequest 0 = true ∧
    (ready .setup).mc.mode = .setup ∧ (31 : Byte).toNat < 32 ∧ ¬ (32 : Byte).toNat < 32 := by decide +kernel

/-- No lane offers a place; the deepest place of the one lane that does; the lane excluded. -/
theorem witness_AllocatorFindsTheBestSpace :
    plain.allocate (car 9 .awaitingSpace .noneYet) none = none ∧
    (blocked .empty).allocate (car 9 .awaitingSpace .noneYet) none = some 7 ∧
    (blocked .empty).allocate (car 9 .awaitingSpace .noneYet) (some 4) = some 0 := by decide +kernel

/-- Two tickets wait for a space: the first is too large for the one zone. -/
def waiting : State :=
  withTickets [{ car 1 .awaitingSpace .noneYet with carClass := .oversize }, car 2 .awaitingSpace .noneYet]
    { garage with sa := { garage.sa with waitQueue := [1, 2] },
                  au := { garage.au with flags := garage.au.flags.set AlertFlag.spaceWait.idx ⟨true, none, 1⟩ } }

/-- The garage with its zone closed. -/
def shut : State :=
  { garage with sa := { garage.sa with
    zones := garage.sa.zones.set 0 (some ⟨⟨0, 16, 1, 4, .standard, Table.replicate 4 none⟩, false⟩) } }

/-- A pass that leaves the first ticket waiting and gives the second a space, and the two requests that run one. -/
theorem witness_WaitQueuePass :
    ((Work.begin waiting).sa.waitQueue = [1, 2] ∧ (waiting.ticket? 1).isSome = true ∧ (waiting.ticket? 2).isSome = true ∧
      (waiting.alert .spaceWait).set = true ∧ (waiting.ticket? 1).bind (waiting.allocate · none) = none ∧
      (waiting.ticket? 2).bind (waiting.allocate · none) = some 0) ∧
    (shut.unstaffed = true ∧ shut.serves 0 .zoneState = true ∧ zone? 0 = some 0 ∧
      (shut.sa.zones.get 0).map Zone.isOpen = some false) ∧
    ((withSpace 1 .outOfService garage).unstaffed = true ∧ (withSpace 1 .outOfService garage).serves 0 .spaceService = true ∧
      space? 1 = some 1 ∧ (withSpace 1 .outOfService garage).spaceRec 1 = .outOfService) := by decide +kernel

/-- The checks of PARKED, each met by a space of one lane. -/
theorem witness_ParkedChecks :
    (plain.serves 0 .parked = true ∧ space? 1023 = some 1023 ∧ plain.ticket? 1 = none) ∧
    (let s := crowded .standard
     s.serves 0 .parked = true ∧ (∀ l ∈ s.sa.lanes, l.front.val + l.depth ≤ 1024) ∧
      s.ticket? 1 = some { car 1 .parked (.onHook 40) with space := some 3 } ∧
      s.ticket? 3 = some { car 3 .inbound .noneYet with space := some 2 } ∧ s.spaceRec 1023 = .unmapped ∧
      (withSpace 0 .outOfService s).spaceRec 0 = .outOfService ∧ s.laneOf? 2 = some ⟨0, 4, none⟩ ∧
      s.spaceRec 1 = .occupied 2 ∧ (s.zoneOf? 7).map (fun z => z.2.cls) = some .standard ∧
      s.parkedRefusal { car 3 .inbound .noneYet with space := some 2 } 0 = none ∧
      s.parkedRefusal { car 3 .inbound .noneYet with space := some 2 } 1 = some .spaceTaken ∧
      s.parkedRefusal { car 3 .inbound .noneYet with space := some 2 } 2 = some .badSpace ∧
      s.parkedRefusal { car 3 .inbound .noneYet with carClass := .oversize } 7 = some .badSpace) ∧
    (let s := relocating (.onHook 40) (.holding 1)
     s.parkedRefusal { car 2 .relocating .taken with space := some 1, nextSpace := some 7, run := some 4 } 0 =
        some .laneBusy ∧ (s.laneOf? 0).map Lane.shuffle = some (some 4)) := by decide +kernel

/-- The states of the PARKED witnesses: a hold of its own, no hold but a place in the wait queue. -/
def inbound : State := withTickets [{ car 1 .inbound .taken with space := some 0 }] (withSpace 0 (.held 1) garage)

theorem witness_ParkedTakesItsSpace :
    (inbound.serves 0 .parked = true ∧ inbound.unstaffed = true ∧ inbound.sa.waitQueue = [] ∧
      inbound.ticket? 1 = some { car 1 .inbound .taken with space := some 0 } ∧ space? 0 = some 0 ∧ space? 1 = some 1 ∧
      inbound.parkedRefusal { car 1 .inbound .taken with space := some 0 } 0 = none ∧
      inbound.parkedRefusal { car 1 .inbound .taken with space := some 0 } 1 = none ∧
      inbound.spaceRec 0 = .held 1 ∧ inbound.spaceRec 1 = .free) ∧
    (let s := withTickets [car 1 .awaitingSpace .taken] { garage with sa := { garage.sa with waitQueue := [1] } }
     s.serves 0 .parked = true ∧ s.unstaffed = true ∧ s.ticket? 1 = some (car 1 .awaitingSpace .taken) ∧
      s.parkedRefusal (car 1 .awaitingSpace .taken) 0 = none ∧ s.spaceRec 0 = .free) := by decide +kernel

/-- The claim of ticket 2 is moved, dropped to the wait queue, dropped to nothing, and dropped from a blocker. -/
theorem witness_ParkedMovesAnothersHold :
    let t := { car 1 .inbound .taken with space := some 0 }
    let on (v : Ticket) (run : State → State) (found : Option SpaceNo) : Prop :=
      let s := run (withTickets [t, v] (withSpace 0 (.held 1) (withSpace 1 (.held 2) garage)))
      s.serves 0 .parked = true ∧ s.unstaffed = true ∧ s.sa.waitQueue = [] ∧ space? 1 = some 1 ∧ s.ticket? 1 = some t ∧
        s.parkedRefusal t 1 = none ∧ s.spaceRec 1 = .held 2 ∧ s.ticket? 2 = some v ∧
        (withSpace 0 .free (withSpace 1 (.occupied 1) s)).allocate v (v.space.bind s.laneFront?) = found
    on { car 2 .inbound .taken with space := some 1 } id (some 0) ∧
    on { car 2 .inbound .taken with space := some 1, carClass := .oversize } id none ∧
    on { car 2 .unconfirmed .taken with space := some 1, carClass := .oversize } id none ∧
    on { car 2 .unconfirmed .taken with formerState := some .relocating, nextSpace := some 1 } id (some 0) ∧
    on { car 2 .relocating .taken with nextSpace := some 1, run := some 4, carClass := .oversize }
      (withRun 4 .committed (some (relocation .carried))) none := by decide +kernel

/-- PARKED of the blocker, by the three places of the next key; of a RETURN target; and the bays that they leave. -/
theorem witness_ParkedEndsAStep :
    let back : Run :=
      { runFor 1 .carried none with kind := .return_, committed := true,
                                    steps := [⟨1, .target, some (.bay 7), none, .carried, none⟩] }
    let home := withTickets [{ car 1 .returning .taken with space := some 0, run := some 4, bay := some 7 }]
      (withSpace 0 (.held 1) (withRun 4 .committed (some back) garage))
    (([(.onHook 40, .holding 1), (.onHook 40, .awaitRehang 1 8), (.taken, .empty)] : List (KeyPlace × Occupancy)).all
      fun x =>
        let s := relocating x.1 x.2
        s.serves 0 .parked && s.unstaffed && s.sa.waitQueue.isEmpty && s.run? 4 == some (relocation .carried) &&
          (s.ticket? 2).any (fun t => t.run == some 4 && t.state == .relocating && s.parkedRefusal t 7 == none) &&
          (s.ticket? 1).any (fun y => y.key == x.1) && (s.hook 40).occ == x.2 && s.spaceRec 7 == .held 2) = true ∧
    (home.serves 0 .parked = true ∧ home.run? 4 = some back ∧ home.spaceRec 0 = .held 1 ∧ home.da.queue = [] ∧
      (home.ticket? 1).map (fun t => (t.state, t.run, t.bay, home.parkedRefusal t 0)) =
        some (.returning, some 4, some 7, none)) ∧
    (((withBay 7 ⟨.clearing, some 1, some 2, false, false, true⟩ home).bay 7).incoming = some 2 ∧
      ((withBay 7 ⟨.clearing, some 1, none, false, false, true⟩ home).bay 7).incoming = none ∧
      ((withBay 7 ⟨.incoming, none, some 2, false, false, false⟩ home).bay 7).incoming ≠ some 1) ∧
    (let t := { car 1 .unconfirmed .taken with formerState := some .outbound, space := some 0, bay := some 2 }
     let s := withBay 2 ⟨.incoming, none, some 1, false, false, false⟩ (withTickets [t] (withSpace 0 (.occupied 1) garage))
     s.serves 0 .parked = true ∧ s.ticket? 1 = some t ∧ s.parkedRefusal t 0 = none ∧ (s.bay 2).incoming = some 1) := by
  decide +kernel

/-- Ticket 1 evicted from bay 0 for the target of a run of runner 4, ticket 2, its RETURN entry pending with those given;
the other bay of the section as given. -/
def recalledBack (other : Bay) (q : List Entry) : State :=
  let s := withBay 1 other (withBay 0 ⟨.clearing, some 1, some 2, false, false, true⟩
    (withRun 4 .committed (some { runFor 2 .carried none with bay := some 0 })
      (withTickets [{ car 1 .staged .atTray with bay := some 0 },
        { car 2 .outbound .taken with bay := some 0, run := some 4 }, { car 3 .staged .atTray with bay := some 1 }]
        plain)))
  { s with da := { s.da with queue := ⟨1, .return_, 4, 0, 0, 2⟩ :: q } }

theorem witness_RecallCreatesMergesOrAnswersReady :
    (let t := { car 1 .parked .taken with guestRef := some 7 }
     let s := withTickets [t] plain
     s.serves 0 .recall = true ∧ s.unstaffed = true ∧ optSection? 3 = some (some 3) ∧ optSection? 0xFF = some none ∧
       s.ticket? 1 = some t ∧ s.recall? 1 = none ∧ s.guestTickets 7 = [t]) ∧
    (let s := withEntry ⟨1, .prestage, 7, 0, 0, 0⟩ (withTickets [car 1 .parked .taken] plain)
     s.serves 0 .recall = true ∧ s.unstaffed = true ∧ s.ticket? 1 = some (car 1 .parked .taken) ∧
      s.recall? 1 = some ⟨1, .prestage, 7, 0, 0, 0⟩) ∧
    (let t := { car 1 .outbound .taken with run := some 4 }
     let s := withRun 4 .committed (some (runFor 1 .carried none)) (withTickets [t] plain)
     s.serves 0 .recall = true ∧ s.unstaffed = true ∧ s.ticket? 1 = some t ∧ s.recall? 1 = none ∧
      s.targetRun? 1 = some (4, runFor 1 .carried none)) ∧
    (let t := { car 1 .staged .atTray with bay := some 0 }
     let s := withBay 0 ⟨.occupied, some 1, none, false, false, false⟩ (withTickets [t] plain)
     s.serves 0 .recall = true ∧ s.unstaffed = true ∧ s.ticket? 1 = some t ∧ s.recall? 1 = none ∧
      (s.bay 0).condition = .occupied) ∧
    (let s := recalledBack ⟨.empty, none, none, false, false, false⟩ []
     let t := { car 1 .staged .atTray with bay := some 0 }
     s.serves 0 .recall = true ∧ s.unstaffed = true ∧ s.ticket? 1 = some t ∧
      s.recall? 1 = some ⟨1, .return_, 4, 0, 0, 2⟩ ∧ (s.bay 0).condition = .clearing ∧ (s.bay 0).occupant = some 1 ∧
      (s.bay 0).incoming = some 2 ∧ s.targetRun? 2 = some (4, { runFor 2 .carried none with bay := some 0 }) ∧
      (s.bay 1).condition = .empty ∧
      ((withBay 0 ⟨.occupied, some 1, none, false, false, false⟩ s).bay 0).condition = .occupied) ∧
    (∀ q ∈ [[], [(⟨3, .return_, 5, 0, 1, 0⟩ : Entry)], [⟨3, .return_, 2, 0, 1, 0⟩]],
      let s := recalledBack ⟨.occupied, some 3, none, false, false, false⟩ q
      s.serves 0 .recall = true ∧ s.unstaffed = true ∧ s.recall? 1 = some ⟨1, .return_, 4, 0, 0, 2⟩ ∧
        (s.bay 1).evictable = true ∧ (s.bay 1).occupant = some 3 ∧ s.recall? 3 = q.head?) ∧
    (∀ k ∈ [(⟨.occupied, some 3, none, true, false, false⟩ : Bay), ⟨.occupied, some 3, none, false, true, false⟩,
        ⟨.incoming, none, some 3, false, false, false⟩, ⟨.clearing, some 3, none, false, false, false⟩],
      let s := recalledBack k []
      s.serves 0 .recall = true ∧ s.unstaffed = true ∧ (s.bay 1).condition ≠ .empty ∧ (s.bay 1).evictable = false) := by
  decide +kernel

/-- An entry for each BlockedReason, and one that fails no condition. -/
theorem witness_EligibilityOfAnEntry :
    let e : Entry := ⟨1, .retrieve, 4, 0, 0, 0⟩
    let s := blocked (.holding 2)
    let t := { car 1 .staged .atTray with bay := some 0 }
    let f : Entry := ⟨1, .return_, 4, 0, 0, 0⟩
    (s.blockedReason e = none ∧ (s.ticket? 1).bind Ticket.space = some 3) ∧
    ({ s with da := { s.da with mask := 0 } } : State).blockedReason e = some .masked ∧
    (inbound.blockedReason e = some .notParked ∧ (withHook 40 .empty s).blockedReason e = some .keyAbsent) ∧
    (relocating (.onHook 40) (.holding 1)).blockedReason e = some .notParked ∧
    ({ s with sa := { s.sa with lanes := [⟨0, 4, some 4⟩] } } : State).blockedReason e = some .laneBusy ∧
    (withTickets [{ car 1 .parked (.onHook 40) with space := some 3 }, { car 2 .parked .missing with space := some 1 }]
      s).blockedReason e = some .blocker ∧
    ({ s with sa := { s.sa with lanes := [⟨0, 4, none⟩] } } : State).blockedReason e = some .noRoom ∧
    (withBay 0 ⟨.incoming, none, some 9, false, false, false⟩ (withBay 1 ⟨.occupied, some 8, none, true, false, false⟩
      s)).blockedReason e = some .noBay ∧
    ((withTickets [t] garage).blockedReason f = none ∧ (withTickets [t] plain).blockedReason f = some .noRoom ∧
      (withBay 0 ⟨.occupied, some 1, none, true, false, false⟩ (withTickets [t] garage)).blockedReason f =
        some .notParked) := by decide +kernel

theorem witness_EtaOfATicket :
    let s := withEntry ⟨1, .retrieve, 4, 0, 0, 0⟩ (blocked (.holding 2))
    (s.EntryLaw ∧ s.recall? 1 = some ⟨1, .retrieve, 4, 0, 0, 0⟩ ∧ s.eta 1 = 255 ∧
      (withRun 0 .free none s).eta 1 = 8 + 1 * 8 ∧ s.eta 2 = 255) ∧
    (let r := relocating (.onHook 40) (.holding 1)
     r.EntryLaw ∧ r.recall? 1 = none ∧ r.targetRun? 1 = some (4, relocation .carried) ∧ r.eta 1 = 8) ∧
    (withTickets [car 1 .staged .atTray] plain).eta 1 = 0 :=
  ⟨⟨by unfold State.EntryLaw; decide +kernel, by decide +kernel, by decide +kernel, by decide +kernel, by decide +kernel⟩,
    ⟨by unfold State.EntryLaw; decide +kernel, by decide +kernel, by decide +kernel, by decide +kernel⟩, by decide +kernel⟩

/-- An eligible entry with a runner FREE; with none but an ASSIGNED run of greater Level; with neither; an entry that is
not eligible; and none left. -/
theorem witness_ArbitrationTurn :
    let e : Entry := ⟨1, .retrieve, 4, 0, 0, 0⟩
    let s := withEntry e (blocked (.holding 2))
    let w := Work.begin s
    let low := { runFor 9 .released none with level := 7 }
    (w.da.queue[0]? = some e ∧ e.ticket ∉ w.considered ∧ (w.ticket? 1).isSome = true ∧ w.blockedReason e = none ∧
      (∀ x, (w.da.runners.get x).duty ≠ .free) ∧ (∀ r, (w.run? r).isNone = true)) ∧
    ((withRun 31 .free none s).da.runners.get 31).duty = .free ∧
    ((withRun 3 .assigned (some low) s).run? 3 = some low ∧ e.level.val < low.level.val ∧ s.recall? 9 = none) ∧
    ({ s with da := { s.da with mask := 0 } } : State).blockedReason e = some .masked ∧
    (∀ x ∈ w.da.queue, x.ticket ∈ ({ w with considered := [1] } : Work).considered) ∧
    s.serves 0 .dispatchMask = true := by decide +kernel

/-- A clear lane with an EMPTY bay; and with both bays OCCUPIED, of which one may be evicted, its occupant with no entry
and with a RETURN entry. -/
theorem witness_GrantStartsARun :
    let t := { car 1 .parked (.onHook 40) with space := some 1 }
    let s := withHook 40 (.holding 1) (withTickets [t] (withSpace 1 (.occupied 1) garage))
    let w := Work.begin s
    let full := withBay 0 ⟨.occupied, some 8, none, false, false, false⟩
      (withBay 1 ⟨.occupied, some 9, none, true, false, false⟩ s)
    (w.ticket? 1 = some t ∧ w.toState.SubstLaw ∧ (∀ x ∈ w.inFront 1, w.spaceRec x = .free) ∧
      (w.hook 40).occ = .holding 1 ∧ (w.hook 40).openForRemoval = false ∧ (w.bay 0).condition = .empty ∧
      w.fc.marker.get 0 = 0 ∧ w.kci.latched.get (slotIdx (w.hookSlot 40)) = true) ∧
    ((full.bay 0).condition = .occupied ∧ (full.bay 0).guestCalled = false ∧ (full.bay 0).locked = false ∧
      (∀ x : BayNo, x.val / 2 = 0 → (full.bay x).condition ≠ .empty) ∧ full.recall? 8 = none ∧
      (withEntry ⟨8, .return_, 7, 0, 0, 0⟩ full).recall? 8 = some ⟨8, .return_, 7, 0, 0, 0⟩) :=
  ⟨⟨by decide +kernel, substLaw_of (by decide +kernel), by decide +kernel, by decide +kernel, by decide +kernel,
    by decide +kernel, by decide +kernel, by decide +kernel⟩, by decide +kernel⟩

/-- A hold and a blocker in front, the hold's ticket with and without another space; and a blocker alone, its key on its
hook and in a carry. -/
theorem witness_GrantInAShuffledLane :
    let e : Entry := ⟨1, .retrieve, 4, 0, 0, 0⟩
    let t := { car 1 .parked (.onHook 40) with space := some 3 }
    let meets (s : State) : Prop :=
      s.powered = true ∧ s.ticket? 1 = some t ∧ s.laneOf? 3 = some ⟨0, 4, none⟩ ∧ s.TicketLaw ∧ s.CustodyLaw ∧
        s.ZoneLaw ∧ s.blockedReason e = none
    (meets (crowded .standard) ∧
      (crowded .standard).allocate { car 3 .inbound .noneYet with space := some 2 } (some 0) = some 7) ∧
    (meets (crowded .oversize) ∧
      (crowded .oversize).allocate { car 3 .inbound .noneYet with space := some 2, carClass := .oversize } (some 0) =
        none) ∧
    ((crowded .standard).spaceRec 2 = .held 3 ∧ 2 ∈ (crowded .standard).inFront 3) ∧
    (meets (blocked (.holding 2)) ∧ meets (blocked (.awaitRehang 2 9)) ∧
      (blocked (.holding 2)).allocate { car 2 .parked (.onHook 41) with space := some 1 } (some 0) = some 7 ∧
      (blocked (.holding 2)).inFront 3 = [0, 1, 2]) := by
  refine ⟨⟨⟨?_, ?_, ?_, ?_, custody_crowded _, zoneLaw_of ?_, ?_⟩, ?_⟩,
    ⟨⟨?_, ?_, ?_, ?_, custody_crowded _, zoneLaw_of ?_, ?_⟩, ?_⟩, ?_,
    ⟨?_, ?_, ?_, ?_, ⟨claimLaw_of ?_, waitLaw_of ?_, runLaw_of ?_⟩, zoneLaw_of ?_, ?_⟩,
    ⟨?_, ?_, ?_, ?_, ⟨claimLaw_of ?_, waitLaw_of ?_, runLaw_of ?_⟩, zoneLaw_of ?_, ?_⟩, ?_⟩ <;>
    first | decide +kernel | (unfold State.TicketLaw; decide +kernel)

theorem witness_GrantOfAReturnRun :
    let t := { car 1 .staged .atTray with bay := some 7 }
    let w := Work.begin (withTickets [t] garage)
    w.ticket? 1 = some t ∧ w.allocate t none = some 0 ∧ (w.bay 7).condition ≠ .occupied ∧
      ((withBay 7 ⟨.occupied, some 1, none, false, false, false⟩ (withTickets [t] garage)).bay 7).condition =
        .occupied := by decide +kernel

/-- A run at its first step, RELEASED and LAPSED, with its reservation in each case of R146. -/
theorem witness_AbortUndoesARun :
    let s := withOpen ⟨1, 8⟩ (withHook 40 (.released 1) (withRun 4 .assigned (some (runFor 1 .released (some 40)))
      (withTickets [{ car 1 .parked (.onHook 40) with run := some 4, bay := some 0 }] plain)))
    (s.run? 4 = some (runFor 1 .released (some 40)) ∧ s.SubstLaw ∧ s.LatchLaw ∧ s.EntryLaw ∧
      (s.ticket? 1).map Ticket.key = some (.onHook 40) ∧ (s.hook 40).occ = .released 1 ∧
      (s.ticket? 1).bind Ticket.bay = some 0 ∧ (s.bay 0).condition = .empty) ∧
    (let l := withHook 40 (.holding 1) (withRun 4 .assigned (some (runFor 1 .lapsed (some 40)))
      (withTickets [{ car 1 .parked (.onHook 40) with run := some 4 }] plain))
     l.SubstLaw ∧ l.LatchLaw ∧ (l.hook 40).occ = .holding 1 ∧ (l.ticket? 1).bind Ticket.bay = none) ∧
    ((withBay 0 ⟨.incoming, none, some 1, false, false, false⟩ s).bay 0).condition = .incoming ∧
    (∀ m : Bool, let c := withBay 0 ⟨.clearing, some 2, some 1, false, false, m⟩ s
      (c.bay 0).occupant = some 2 ∧ (c.bay 0).incoming = some 1 ∧ (∀ e ∈ c.da.queue, e.ticket ≠ 2) ∧
        ⟨2, .return_, 4, 0, 0, 0⟩ ∈ (withEntry ⟨2, .return_, 4, 0, 0, 0⟩ c).da.queue) :=
  ⟨⟨by decide +kernel, substLaw_of (by decide +kernel), latchLaw_of (by decide +kernel),
      by unfold State.EntryLaw; decide +kernel, by decide +kernel, by decide +kernel, by decide +kernel, by decide +kernel⟩,
    ⟨substLaw_of (by decide +kernel), latchLaw_of (by decide +kernel), by decide +kernel, by decide +kernel⟩,
    by decide +kernel, by decide +kernel⟩

theorem witness_CancelWithdrawsARecall :
    (plain.serves 0 .cancel = true ∧ plain.ticket? 1 = none) ∧
    (let s := withTickets [car 1 .parked .taken] plain
     s.serves 0 .cancel = true ∧ s.recall? 1 = none ∧ s.targetRun? 1 = none) ∧
    (let s := withEntry ⟨1, .retrieve, 4, 0, 0, 0⟩ (withTickets [car 1 .parked .taken] plain)
     s.serves 0 .cancel = true ∧ s.evictionPending (car 1 .parked .taken) = false ∧ (s.recall? 1).isSome = true) ∧
    (let t := { car 1 .staged .atTray with bay := some 0 }
     let s := withBay 0 ⟨.clearing, some 1, some 2, false, false, true⟩
      (withEntry ⟨1, .return_, 4, 0, 0, 0⟩ (withTickets [t] plain))
     s.serves 0 .cancel = true ∧ s.ticket? 1 = some t ∧ s.evictionPending t = true) ∧
    (let t := { car 1 .parked .taken with run := some 4 }
     let s := withRun 4 .committed (some (runFor 1 .carried none)) (withTickets [t] plain)
     s.serves 0 .cancel = true ∧ s.recall? 1 = none ∧ (s.targetRun? 1).isSome = true) ∧
    (let t := { car 1 .parked .taken with run := some 4 }
     let s := withRun 4 .assigned (some (runFor 1 .released none)) (withTickets [t] plain)
     s.serves 0 .cancel = true ∧ s.quiet = true ∧ (s.targetRun? 1).isSome = true ∧
      (s.da.runners.get 4).duty = .assigned) := by decide +kernel

theorem witness_RunnerDutyAndDispatchMask :
    (plain.serves 0 .dispatchMask = true ∧ plain.unstaffed = true ∧ plain.da.queue = []) ∧
    (plain.serves 0 .runnerDuty = true ∧ runner? 31 = some 31 ∧ fin? 4 (3 : Byte).toNat = some (3 : Team) ∧
      (plain.da.runners.get 31).duty = .off ∧ plain.da.queue = []) ∧
    ((withRun 0 .free none plain).serves 0 .runnerDuty = true ∧
      ((withRun 0 .free none plain).da.runners.get 0).duty = .free) ∧
    ((withRun 0 .committed none plain).serves 0 .runnerDuty = true ∧
      ((withRun 0 .committed none plain).da.runners.get 0).duty = .committed) ∧
    (let s := withRun 0 .assigned (some (runFor 1 .released none)) plain
     s.serves 0 .runnerDuty = true ∧ (s.da.runners.get 0).duty = .assigned ∧ (s.run? 0).isSome = true ∧
      (s.recall? 1).isNone = true ∧
      ∀ y, y ≠ 0 → (s.da.runners.get y).duty ≠ .free ∧ (s.da.runners.get y).duty ≠ .assigned) := by decide +kernel

/-- An UNCONFIRMED car that had gone OUTBOUND, with its key at a place. -/
def gone (n : TicketNo) (k : KeyPlace) : Ticket := { car n .unconfirmed k with formerState := some .outbound }

/-- Its key on hook 40. -/
def hung : State := withHook 40 (.holding 1) (withTickets [gone 1 (.onHook 40)] plain)

/-- Its key in the open carry of that hook. -/
def hungInCarry : State := withTickets [gone 1301 (.onHook 40)] carrying

/-- Its key MISSING, alone or with others. -/
def lost (others : List Ticket) : State :=
  let s := withTickets (gone 1 .missing :: others) plain
  { s with au := { s.au with flags := s.au.flags.set 10 ⟨true, some (.ticket 1), 1⟩ } }

/-- The standings of a key that leaves its place: on a hook HOLDING it, in a carry, MISSING, and MISSING with another. -/
theorem witness_KeyLeft :
    (hung.SubstLaw ∧ hung.LatchLaw ∧ hung.EntryLaw ∧ hung.quiet = true ∧ hung.ticket? 1 = some (gone 1 (.onHook 40)) ∧
      (hung.hook 40).occ = .holding 1) ∧
    (hungInCarry.SubstLaw ∧ hungInCarry.LatchLaw ∧ hungInCarry.EntryLaw ∧ hungInCarry.quiet = true ∧
      hungInCarry.ticket? 1301 = some (gone 1301 (.onHook 40)) ∧ (hungInCarry.hook 40).occ = .awaitRehang 1301 8) ∧
    ∀ x ∈ [[], [car 2 .parked .missing]],
      (lost x).EntryLaw ∧ (lost x).quiet = true ∧ (lost x).ticket? 1 = some (gone 1 .missing) ∧
        ((lost x).alert .keyMissing).set = true ∧
        ((lost x).ct.tickets.any fun y => y.number != 1 && y.key == .missing) = !x.isEmpty :=
  ⟨⟨substLaw_of (by decide +kernel), latchLaw_of (by decide +kernel), by unfold State.EntryLaw; decide +kernel,
      by decide +kernel⟩,
    ⟨substLaw_of (by decide +kernel), latchLaw_of (by decide +kernel), by unfold State.EntryLaw; decide +kernel,
      by decide +kernel⟩,
    by unfold State.EntryLaw; decide +kernel⟩

/-- A LAPSED step with its key on the hook, in a carry, and off every hook; a step that is not LAPSED; and no run. -/
theorem witness_ReopenAsksForTheKeyAgain :
    let at40 (o : Occupancy) (st : StepState) : State :=
      withHook 40 o (withRun 4 .assigned (some (runFor 1 st (some 40)))
        (withTickets [{ car 1 .parked (.onHook 40) with run := some 4 }] (withSpare plain)))
    ((at40 (.holding 1) .lapsed).serves 0 .reopen = true ∧ (at40 (.holding 1) .lapsed).SubstLaw ∧ runner? 4 = some 4 ∧
      (at40 (.holding 1) .lapsed).run? 4 = some (runFor 1 .lapsed (some 40)) ∧
      ((at40 (.holding 1) .lapsed).hook 40).occ = .holding 1) ∧
    ((at40 (.awaitRehang 1 8) .lapsed).serves 0 .reopen = true ∧ (at40 (.awaitRehang 1 8) .lapsed).SubstLaw ∧
      ((at40 (.awaitRehang 1 8) .lapsed).hook 40).occ.isCarry = true) ∧
    ((at40 (.released 1) .released).serves 0 .reopen = true ∧ (at40 (.released 1) .released).SubstLaw ∧
      ((at40 (.released 1) .released).run? 4).isSome = true) ∧
    (let s := withRun 4 .assigned (some (runFor 1 .lapsed none))
      (withTickets [{ car 1 .parked .missing with run := some 4 }] plain)
     s.serves 0 .reopen = true ∧ s.SubstLaw ∧ (s.ticket? 1).map Ticket.key = some .missing) ∧
    (plain.serves 0 .reopen = true ∧ plain.SubstLaw ∧ plain.run? 4 = none) :=
  ⟨⟨by decide +kernel, substLaw_of (by decide +kernel), by decide +kernel, by decide +kernel, by decide +kernel⟩,
    ⟨by decide +kernel, substLaw_of (by decide +kernel), by decide +kernel⟩,
    ⟨by decide +kernel, substLaw_of (by decide +kernel), by decide +kernel⟩,
    ⟨by decide +kernel, substLaw_of (by decide +kernel), by decide +kernel⟩,
    by decide +kernel, substLaw_of (by decide +kernel), by decide +kernel⟩

/-- STAGED of a run's target and of an UNCONFIRMED car, its refusals, and another bay reserved in each way. -/
theorem witness_StagedPutsTheCarInItsBay :
    (let t := { car 1 .outbound .taken with run := some 4, space := some 0, bay := some 2 }
     let s := withRun 4 .committed (some (runFor 1 .carried none)) (withTickets [t] (withSpace 0 (.occupied 1) garage))
     s.serves 0 .staged = true ∧ s.EntryLaw ∧ s.quiet = true ∧ bay? 7 = some 7 ∧ s.ticket? 1 = some t ∧
      (s.bay 7).condition = .empty ∧ s.targetRun? 1 = some (4, runFor 1 .carried none) ∧
      ((withBay 2 ⟨.incoming, none, some 1, false, false, false⟩ s).bay 2).incoming = some 1 ∧
      ((withBay 2 ⟨.clearing, some 2, some 1, false, false, true⟩ s).bay 2).occupant = some 2 ∧
      (s.bay 2).incoming ≠ some 1 ∧ ((withBay 7 ⟨.occupied, some 3, none, false, false, false⟩ s).bay 7).condition = .occupied) ∧
    (let t := { car 1 .unconfirmed .taken with formerState := some .outbound, bay := some 2 }
     let s := withBay 2 ⟨.incoming, none, some 1, false, false, false⟩ (withTickets [t] plain)
     let p := withEntry ⟨1, .retrieve, 4, 0, 0, 1⟩ (withBay 2 ⟨.clearing, some 2, some 1, false, false, false⟩ s)
     s.serves 0 .staged = true ∧ s.EntryLaw ∧ s.quiet = true ∧ s.ticket? 1 = some t ∧ (s.bay 2).condition = .incoming ∧
      (s.bay 2).incoming = some 1 ∧ p.serves 0 .staged = true ∧ p.EntryLaw ∧ p.unstaffed = true ∧ p.targetRun? 1 = none) ∧
    (plain.serves 0 .staged = true ∧ plain.EntryLaw ∧ plain.ticket? 1 = none ∧
      (withTickets [car 1 .parked .taken] plain).ticket? 1 = some (car 1 .parked .taken)) ∧
    (([hung, hungInCarry, lost [], lost [car 2 .parked .missing]].all fun s =>
      s.serves 0 .staged && s.quiet && (s.bay 7).condition == .empty) = true ∧
      hung.EntryLaw ∧ hungInCarry.EntryLaw ∧ hung.LatchLaw ∧ hungInCarry.LatchLaw) :=
  ⟨⟨by decide +kernel, by unfold State.EntryLaw; decide +kernel, by decide +kernel, by decide +kernel, by decide +kernel,
      by decide +kernel, by decide +kernel, by decide +kernel⟩,
    ⟨by decide +kernel, by unfold State.EntryLaw; decide +kernel, by decide +kernel, by decide +kernel, by decide +kernel,
      by decide +kernel, by decide +kernel, by unfold State.EntryLaw; decide +kernel, by decide +kernel⟩,
    ⟨by decide +kernel, by unfold State.EntryLaw; decide +kernel, by decide +kernel⟩,
    by decide +kernel, witness_KeyLeft.1.2.2.1, witness_KeyLeft.2.1.2.2.1, witness_KeyLeft.1.2.1,
    witness_KeyLeft.2.1.2.1⟩

/-- Ticket 1 evicted from bay 0, its RETURN entry pending and a runner FREE. -/
def evicted (x : Option TicketNo) : State :=
  withEntry ⟨1, .return_, 4, 0, 0, 0⟩ (withBay 0 ⟨.clearing, some 1, x, false, false, true⟩
    (withRun 4 .free none (withTickets [{ car 1 .staged .atTray with bay := some 0 }] plain)))

/-- HANDOVER refused, of a car in its bay, of one with two spaces, with each row of R153's table, and with its key at
each place. -/
theorem witness_HandoverFreesTheRecord :
    (plain.serves 0 .handover = true ∧ plain.ticket? 1 = none) ∧
    (let s := withTickets [car 1 .parked .taken] plain
     s.serves 0 .handover = true ∧ (s.ticket? 1).map Ticket.state = some .parked) ∧
    (let t := { car 1 .staged .atTray with bay := some 0 }
     let s := withBay 0 ⟨.occupied, some 1, none, true, false, false⟩ (withTickets [t] plain)
     s.serves 0 .handover = true ∧ s.quiet = true ∧ s.ticket? 1 = some t ∧ (s.bay 0).occupant = some 1) ∧
    (let t := { car 1 .unconfirmed .taken with space := some 0, nextSpace := some 1 }
     let s := withTickets [t] (withSpace 0 (.occupied 1) (withSpace 1 (.held 1) garage))
     s.serves 0 .handover = true ∧ s.quiet = true ∧ s.ticket? 1 = some t) ∧
    ([some 2, none].all fun x =>
      let s := evicted x
      s.serves 0 .handover && s.sa.waitQueue.isEmpty && (s.da.queue.all fun e => e.ticket == 1 && e.kind == .return_) &&
        s.da.queue.length == 1 && !s.unstaffed && (s.ticket? 1).any (fun t => t.state == .staged && t.bay == some 0) &&
        (s.bay 0).condition == .clearing && (s.bay 0).occupant == some 1 && (s.bay 0).incoming == x) = true ∧
    (∀ k ∈ [(⟨.clearing, some 1, none, false, false, false⟩ : Bay), ⟨.incoming, none, some 1, false, false, false⟩,
        ⟨.empty, none, none, false, false, false⟩, ⟨.incoming, none, some 2, false, false, false⟩,
        ⟨.occupied, some 2, none, false, false, false⟩],
      let t := { gone 1 .taken with bay := some 7 }
      let s := withEntry ⟨2, .retrieve, 4, 0, 0, 0⟩ (withBay 7 k (withTickets [t] plain))
      s.serves 0 .handover = true ∧ s.sa.waitQueue = [] ∧ s.unstaffed = true ∧ s.ticket? 1 = some t ∧ s.bay 7 = k) ∧
    (([hung, hungInCarry, lost [], lost [car 2 .parked .missing]].all fun s =>
      s.serves 0 .handover && s.sa.waitQueue.isEmpty && s.da.queue.isEmpty) = true ∧
      hung.SubstLaw ∧ hung.LatchLaw ∧ hungInCarry.SubstLaw ∧ hungInCarry.LatchLaw) :=
  ⟨by decide +kernel, by decide +kernel, by decide +kernel, by decide +kernel, by decide +kernel, by decide +kernel,
    by decide +kernel, witness_KeyLeft.1.1, witness_KeyLeft.1.2.1, witness_KeyLeft.2.1.1, witness_KeyLeft.2.1.2.1⟩

theorem witness_ReturnCarAndBayHold :
    (let s := withTickets [car 1 .parked .taken] plain
     s.serves 0 .returnCar = true ∧ s.unstaffed = true ∧ s.ticket? 1 = some (car 1 .parked .taken)) ∧
    (let t := { car 1 .staged .atTray with bay := some 7 }
     let s := withBay 7 ⟨.occupied, some 1, none, true, true, false⟩ (withTickets [t] plain)
     s.serves 0 .returnCar = true ∧ s.unstaffed = true ∧ s.ticket? 1 = some t ∧ s.recall? 1 = none) ∧
    (let t := { car 1 .staged .atTray with bay := some 7 }
     let s := withEntry ⟨1, .return_, 5, 3, 0, 0⟩ (withTickets [t] plain)
     s.serves 0 .returnCar = true ∧ s.unstaffed = true ∧ s.ticket? 1 = some t ∧
      s.recall? 1 = some ⟨1, .return_, 5, 3, 0, 0⟩) ∧
    plain.serves 0 .bayHold = true ∧ bay? 7 = some 7 ∧ (plain.bay 7).condition ≠ .occupied ∧
    ((withBay 7 ⟨.occupied, some 1, none, false, true, false⟩ plain).bay 7).condition = .occupied ∧
    (withBay 7 ⟨.occupied, some 1, none, false, true, false⟩ plain).unstaffed = true := by decide +kernel

theorem witness_StaffResolveUnownedKeys :
    (let s := withHook 511 .stray (withTickets [car 1 .parked .missing] plain)
     s.SubstLaw ∧ hook? 511 = some 511 ∧ s.serves 0 .keyClaim = true ∧ s.unstaffed = true ∧
      s.serves 0 .releaseHook = true ∧ (s.hook 511).occ = .stray ∧ s.ticket? 1 = some (car 1 .parked .missing)) ∧
    (let s := withTickets [car 1 .staged .atTray] plain
     s.SubstLaw ∧ s.serves 0 .keyClaim = true ∧ s.serves 0 .releaseHook = true ∧ (s.hook 511).occ = .empty ∧
      s.ticket? 1 = some (car 1 .staged .atTray)) ∧
    (carrying.SubstLaw ∧ carrying.serves 0 .releaseHook = true ∧ hook? 40 = some 40 ∧
      (carrying.hook 40).occ = .awaitRehang 1301 8) :=
  ⟨⟨substLaw_of (by decide +kernel), by decide +kernel, by decide +kernel, by decide +kernel, by decide +kernel,
      by decide +kernel, by decide +kernel⟩,
    ⟨substLaw_of (by decide +kernel), by decide +kernel⟩, ⟨substLaw_of (by decide +kernel), by decide +kernel, by decide +kernel, by decide +kernel⟩⟩

theorem witness_SubstituteRetireAndRestore :
    (carrying.serves 0 .substitute = true ∧ hook? 40 = some 40 ∧ (carrying.activeEntry? 40).isSome = true) ∧
    (let s := { plain with kci := { plain.kci with subst := (plain.kci.subst.set 2 ⟨true, 8⟩).set 3 ⟨true, 9⟩ } }
     s.serves 0 .substitute = true ∧ (s.hook 42).retired = false ∧ s.activeEntry? 42 = none ∧
      ∀ i, (s.entry (hookBank 42) i).active = true) ∧
    (plain.serves 0 .substitute = true ∧ (plain.hook 42).occ = .empty ∧ plain.activeEntry? 42 = none ∧
      (plain.entry (hookBank 42) 0).active = false) ∧
    (carrying.activeEntry? 42 = none ∧ (carrying.entry (hookBank 42) 0).active = true ∧
      (carrying.entry (hookBank 42) 1).active = false) ∧
    ((withHook 42 (.holding 1) plain).hook 42).occ = .holding 1 ∧
    ((withHook 42 (.released 1) plain).hook 42).occ = .released 1 ∧
    plain.serves 0 .retire = true ∧ plain.serves 0 .restore = true ∧ hook? 511 = some 511 ∧
    (plain.hook 511).occ = .empty ∧ ((withHook 511 .stray plain).hook 511).occ ≠ .empty ∧
    (let s := { plain with kci := { plain.kci with subst := plain.kci.subst.set 2 ⟨true, 8⟩ } }
     s.activeEntry? 40 = some 0) := by decide +kernel

theorem witness_CabinetDiagReports :
    plain.takesRequest 0 = true ∧ (plain.mc.ports.get 0).roles.getLsbD 3 = true ∧ plain.mc.mode ≠ .recovery ∧
    (15 : Byte).toNat < 16 ∧ ¬ (16 : Byte).toNat < 16 := by decide +kernel

theorem witness_ZoneAndSpaceService :
    zone? 0 = some 0 ∧ zone? 7 = some 7 ∧ space? 1023 = some 1023 ∧ garage.unstaffed = true ∧
    garage.sa.waitQueue = [] ∧ garage.serves 0 .zoneState = true ∧ garage.serves 0 .spaceService = true ∧
    garage.sa.zones.get 7 = none ∧ (garage.sa.zones.get 0).isSome = true ∧ garage.spaceRec 1023 = .unmapped ∧
    garage.spaceRec 1 = .free ∧ (∀ d ∈ garage.deeper 1, garage.spaceRec d = .free) ∧
    (withSpace 1 .outOfService garage).spaceRec 1 = .outOfService ∧
    (let s := { withSpace 1 (.occupied 1) garage with
        sa := { (withSpace 1 (.occupied 1) garage).sa with lanes := [⟨0, 2, none⟩] } }
     s.spaceRec 0 = .free ∧ 1 ∈ s.deeper 0 ∧ s.spaceRec 1 = .occupied 1) := by decide +kernel

theorem witness_QuerySpaceReports :
    plain.takesRequest 0 = true ∧ (ready .setup).mc.mode = .setup ∧ plain.mc.mode ≠ .setup ∧
    1024 ≤ (1024 : BitVec 16).toNat ∧ (1023 : BitVec 16).toNat < 1024 ∧ garage.spaceRec 1023 = .unmapped ∧
    garage.spaceRec 1 ≠ .unmapped ∧ (garage.zoneOf? 1).isSome = true ∧ garage.laneOf? 1 = some ⟨1, 1, none⟩ := by
  decide +kernel

/-- A part in SETUP whose working configuration has zone 0 over spaces 0 to 15. -/
def planned : State :=
  let s := ready .setup
  { s with mc := { s.mc with working := { s.mc.working with
    zones := s.mc.working.zones.set 0 (some ⟨0, 16, 1, 4, .standard, Table.replicate 4 none⟩) } } }

/-- CONFIGURE ZONE over spaces 512 to 1023, clear of zone 0, and over spaces 0 to 511, which takes zone 0 in. -/
theorem witness_ConfigureAndTune :
    (planned.serves 0 .configure = true ∧ ZonesApart planned.mc.working.zones ∧ zone? 7 = some 7 ∧
      zoneClass? 2 = some .reserved ∧ quarterTeam? 0xFF = some none ∧ quarterTeam? 3 = some (some 3) ∧
      (512 : BitVec 16).toNat ∈ [16, 32, 64, 128, 256, 512] ∧ (4 : Byte).toNat ∈ [1, 2, 4] ∧
      (512 : BitVec 16).toNat % (512 : BitVec 16).toNat = 0 ∧
      (512 : BitVec 16).toNat + (512 : BitVec 16).toNat ≤ 1024 ∧
      (0 : BitVec 16).toNat % (512 : BitVec 16).toNat = 0 ∧ (planned.mc.working.zones.get 0).isSome = true) ∧
    (planned.serves 0 .tune = true ∧ plain.serves 0 .tune = true ∧ (3 : Byte).toNat = (3 : Port).val ∧
      (15 : Byte).toNat < 16 ∧ level? 7 = some 7 ∧ curbSection? 3 = some 3 ∧ (2047 : BitVec 16).toNat < 2048) :=
  ⟨⟨by decide +kernel, zonesApart_of (by decide +kernel), by decide +kernel⟩, by decide +kernel⟩

theorem witness_CommitSetupEntersService :
    (planned.serves 0 .commitSetup = true ∧ (planned.mc.working.ports.get 0).roles.getLsbD 3 = true ∧
      planned.sa.waitQueue = [] ∧ ZonesApart planned.mc.working.zones) ∧
    (let s := { planned with mc := { planned.mc with working := { planned.mc.working with
        ports := Table.replicate 4 ⟨7, 4, 0, 0⟩ } } }
     s.serves 0 .commitSetup = true ∧ ∀ q, (s.mc.working.ports.get q).roles.getLsbD 3 = false) :=
  ⟨⟨by decide +kernel, by decide +kernel, by decide +kernel, zonesApart_of (by decide +kernel)⟩, by decide +kernel⟩

theorem witness_ColdStartReturnsToSetup :
    plain.serves 0 .coldStart = true ∧ plain.ct.tickets = [] ∧
    (withTickets [car 1 .parked .taken] plain).serves 0 .coldStart = true := by decide +kernel

theorem witness_ClearAlertClearsTheFlagsNamed :
    plain.serves 0 .clearAlert = true ∧ (2047 : BitVec 16).toNat < 2048 ∧ 2048 ≤ (2048 : BitVec 16).toNat := by
  decide +kernel

theorem witness_StatusReports : plain.takesRequest 3 = true := by decide +kernel

theorem witness_ColdResetReleaseAndPowerLoss :
    (true && State.reset.mc.commitMark) = false ∧ (false && plain.mc.commitMark) = false ∧ plain.powered = true ∧
    ({ plain with powered := false } : State).powered = false := by decide +kernel

/-- Retained memory with bays in each Condition: R157's rows, and a parked blocker whose NextSpace is released. -/
theorem witness_WarmResetKeepsCustody :
    let s := withBay 0 ⟨.incoming, none, some 1, false, false, false⟩
      (withBay 2 ⟨.clearing, some 3, some 1, false, false, true⟩
        (withBay 4 ⟨.clearing, some 4, some 5, false, false, true⟩
          (withBay 6 ⟨.incoming, none, some 5, false, false, false⟩
            (withTickets [{ car 1 .outbound .taken with space := some 0, bay := some 0 },
              { car 2 .parked (.onHook 40) with space := some 1, nextSpace := some 5 },
              { car 3 .staged .atTray with bay := some 2 }, { car 4 .returning .taken with space := some 6 },
              { car 5 .parked (.onHook 41) with space := some 2, bay := some 6 }]
              (withSpace 5 (.held 2) plain)))))
    s.mc.commitMark = true ∧ s.powered = true ∧ (s.ct.tickets.map Ticket.number).Nodup := by decide +kernel

theorem witness_ServiceTickCounts :
    (plain.live = true ∧ plain.unstaffed = true ∧ plain.tb.phase ≠ 3 ∧ plain.mc.mode ≠ .recovery) ∧
    ({ plain with tb := ⟨3, 0⟩ } : State).tb.phase = 3 ∧
    (let s := withRun 4 .committed (some (runFor 1 .carried none)) plain
     s.live = true ∧ s.unstaffed = true ∧ (s.run? 4).isSome = true) ∧
    ((ready .recovery).live = true ∧ (ready .recovery).unstaffed = true ∧ (ready .recovery).mc.scanBank = some 0 ∧
      (ready .recovery).mc.scanWaited + 1 < 4) ∧
    (let s := { ready .recovery with mc := { (ready .recovery).mc with scanWaited := 3 } }
     s.live = true ∧ s.unstaffed = true ∧ 4 ≤ s.mc.scanWaited + 1) ∧
    (let s := lastTick 40 (.released 1) false (withRun 4 .committed (some (runFor 1 .released (some 40)))
      (withTickets [{ car 1 .parked (.onHook 40) with run := some 4 }] plain))
     s.live = true ∧ s.unstaffed = true ∧ (s.hook 40).windowLeft = 1 ∧ (s.hook 40).occ = .released 1 ∧
      s.runOf? 1 = some (4, runFor 1 .released (some 40))) ∧
    (let s := lastTick 40 .stray true plain
     s.live = true ∧ (s.hook 40).windowLeft = 1 ∧ (s.hook 40).occ = .stray) := by decide +kernel

theorem witness_MinuteEventScansForPrestage :
    (plain.live = true ∧ plain.mc.params.l = 0) ∧
    (let t := { car 1 .parked (.onHook 40) with departure := some 31 }
     let s := withTickets [t, car 2 .parked .taken]
      { plain with mc := { plain.mc with params := { plain.mc.params with l := 30 } } }
     s.live = true ∧ s.mc.mode = .service ∧ 0 < s.mc.params.l ∧ s.unstaffed = true ∧
      (s.ct.tickets.map Ticket.number).Nodup ∧ t ∈ s.ct.tickets ∧ s.recall? 1 = none ∧
      31 ≤ min (s.tb.minute + 1) 16777215 + s.mc.params.l) := by decide +kernel

theorem witness_CountsThatRunOut :
    (let s := lastTick 40 (.released 1) false (withRun 4 .committed (some (runFor 1 .released (some 40)))
      (withTickets [{ car 1 .parked (.onHook 40) with run := some 4 }] plain))
     s.live = true ∧ s.unstaffed = true ∧ s.SubstLaw ∧ (s.hook 40).occ = .released 1 ∧ (s.hook 40).windowLeft ≤ 1 ∧
      s.runOf? 1 = some (4, runFor 1 .released (some 40))) ∧
    (let s := lastTick 40 .stray true plain
     s.live = true ∧ s.SubstLaw ∧ (s.hook 40).occ = .stray ∧ (s.hook 40).openForRemoval = true ∧
      (s.hook 40).windowLeft ≤ 1) ∧
    (let s := withRun 4 .committed (some { runFor 1 .carried none with elapsed := 15 }) plain
     s.live = true ∧ s.run? 4 = some { runFor 1 .carried none with elapsed := 15 } ∧ 16 ≤ 15 + 1) ∧
    (let s := withRun 4 .committed (some { runFor 1 .carried none with elapsed := 254 }) plain
     s.live = true ∧ s.run? 4 = some { runFor 1 .carried none with elapsed := 254 } ∧ 255 ≤ 254 + 1) ∧
    (∀ x ∈ [(14, false), (254, true)],
      let s := withRun 4 .committed
        (some { runFor 1 .carried none with elapsed := x.1, overdue := x.2, lost := x.2 }) plain
      s.live = true ∧ (s.run? 4).map (fun q => (q.overdue, q.lost, q.elapsed)) = some (x.2, x.2, x.1) ∧
        (x.2 = true ∨ x.1 + 1 < 16)) ∧
    (plain.run? 4 = none ∧ (plain.hook 40).openForRemoval = false ∧ (plain.hook 40).occ = .empty ∧
      plain.mc.mode ≠ .recovery) ∧
    (∀ b ∈ [0, 14, 15],
      let s := { ready .recovery with mc := { (ready .recovery).mc with scanWaited := 3, scanBank := some b } }
      s.live = true ∧ s.mc.mode = .recovery ∧ s.mc.scanBank = some b ∧ 4 ≤ s.mc.scanWaited + 1 ∧
        s.sa.waitQueue = []) :=
  ⟨⟨by decide +kernel, by decide +kernel, substLaw_of (by decide +kernel), by decide +kernel, by decide +kernel,
      by decide +kernel⟩,
    ⟨by decide +kernel, substLaw_of (by decide +kernel), by decide +kernel, by decide +kernel, by decide +kernel⟩,
    by decide +kernel, by decide +kernel, by decide +kernel, by decide +kernel, by decide +kernel⟩

theorem witness_HungRecordsAKey :
    (plain.takesCabinet = true ∧ plain.unstaffed = true ∧ plain.slotOwner ⟨15, 33⟩ = .unmapped ∧
      plain.slotOwner ⟨7, 9⟩ = .hook 233 ∧ (plain.hook 233).retired = false ∧ (plain.hook 233).occ = .empty ∧
      decodeTag (BitVec.setWidth 22 (0x8230 : BitVec 24)) = none ∧
      decodeTag (BitVec.setWidth 22 (0x9A30 : BitVec 24)) = some 1234 ∧ plain.ticket? 1234 = none) ∧
    (withTickets [car 1234 .parked .taken] plain).ticket? 1234 = some (car 1234 .parked .taken) ∧
    (withTickets [car 1234 .staged .atTray] plain).ticket? 1234 = some (car 1234 .staged .atTray) ∧
    ((withHook 233 .stray plain).takesCabinet = true ∧ ((withHook 233 .stray plain).hook 233).occ ≠ .empty ∧
      (withHook 233 .stray plain).slotOwner ⟨7, 9⟩ = .hook 233) ∧
    (let s := { plain with kci := { plain.kci with hooks := plain.kci.hooks.set 233 ⟨.empty, false, true, false, 0⟩ } }
     s.takesCabinet = true ∧ s.slotOwner ⟨7, 9⟩ = .hook 233 ∧ (s.hook 233).retired = true) ∧
    (carrying.takesCabinet = true ∧ carrying.unstaffed = true ∧ carrying.slotOwner ⟨1, 8⟩ = .carrySlot 40 ∧
      carrying.slotOwner ⟨1, 32⟩ = .carrySpare 40 ∧ carrying.SubstLaw ∧ carrying.LatchLaw ∧
      (carrying.hook 40).occ = .awaitRehang 1301 8 ∧ (carrying.ticket? 1301).map Ticket.key = some (.onHook 40) ∧
      decodeTag (BitVec.setWidth 22 (encodeTag 1301)) = some 1301 ∧ (1234 : TicketNo) ≠ 1301) :=
  ⟨by decide +kernel, by decide +kernel, by decide +kernel, by decide +kernel, by decide +kernel, by decide +kernel,
    by decide +kernel, by decide +kernel, by decide +kernel, substLaw_of (by decide +kernel),
    latchLaw_of (by decide +kernel), by decide +kernel⟩

theorem witness_LiftedAndSensorFault :
    (plain.takesCabinet = true ∧ plain.slotOwner ⟨0, 32⟩ = .unmapped ∧ plain.slotOwner ⟨1, 8⟩ = .hook 40 ∧
      (plain.hook 40).occ = .empty ∧ (plain.hook 40).retired = false) ∧
    (let t := { car 1 .parked (.onHook 40) with run := some 4 }
     let s := withHook 40 (.released 1) (withRun 4 .assigned (some (runFor 1 .released (some 40))) (withTickets [t] plain))
     s.takesCabinet = true ∧ s.slotOwner ⟨1, 8⟩ = .hook 40 ∧ (s.hook 40).occ = .released 1 ∧ s.ticket? 1 = some t ∧
      s.runOf? 1 = some (4, runFor 1 .released (some 40))) ∧
    (let s := withHook 40 (.holding 1) (withTickets [car 1 .parked (.onHook 40)] plain)
     s.takesCabinet = true ∧ s.slotOwner ⟨1, 8⟩ = .hook 40 ∧ (s.hook 40).occ = .holding 1 ∧
      s.currentIs 1 .lapsed = false) ∧
    (let t := { car 1 .parked (.onHook 40) with run := some 4 }
     let s := withHook 40 (.holding 1) (withRun 4 .assigned (some (runFor 1 .lapsed (some 40))) (withTickets [t] plain))
     s.takesCabinet = true ∧ s.slotOwner ⟨1, 8⟩ = .hook 40 ∧ (s.hook 40).occ = .holding 1 ∧ s.ticket? 1 = some t ∧
      s.runOf? 1 = some (4, runFor 1 .lapsed (some 40))) ∧
    (let s := withHook 40 .unverified plain
     s.takesCabinet = true ∧ s.slotOwner ⟨1, 8⟩ = .hook 40 ∧ (s.hook 40).openForRemoval = false) ∧
    (let s := lastTick 40 .stray true plain
     s.takesCabinet = true ∧ s.slotOwner ⟨1, 8⟩ = .hook 40 ∧ (s.hook 40).openForRemoval = true) ∧
    (carrying.takesCabinet = true ∧ carrying.slotOwner ⟨1, 8⟩ = .carrySlot 40 ∧
      carrying.slotOwner ⟨1, 32⟩ = .carrySpare 40) := by decide +kernel

/-- Bank 0 in RECOVERY with each row of R178's table: EMPTY, HOLDING and unowned hooks, and a carry to its spare. -/
theorem witness_BankStateReconcilesItsBank :
    ([] : List (BitVec 24)).length ≠ ((List.finRange 34).filter fun i => (1 : BitVec 40).getLsbD i.val).length ∧
    ([0] : List (BitVec 24)).length = ((List.finRange 34).filter fun i => (1 : BitVec 40).getLsbD i.val).length ∧
    (plain.takesCabinet = true ∧ plain.mc.mode ≠ .recovery) ∧
    (let r := ready .recovery
     let s := withHook 0 (.holding 1) (withHook 2 .stray (withHook 3 (.awaitRehang 2 3)
      (withTickets [car 1 .parked (.onHook 0), car 2 .parked (.onHook 3), car 3 .staged .atTray, car 4 .parked .missing]
        { r with kci := { r.kci with subst := r.kci.subst.set 0 ⟨true, 3⟩ } })))
     s.takesCabinet = true ∧ s.mc.mode = .recovery ∧ s.mc.scanBank = some 0 ∧ (0 : Byte).toNat = (0 : BankNo).val ∧
      (1 : Byte).toNat ≠ (0 : BankNo).val ∧ s.unstaffed = true ∧ s.SubstLaw ∧ s.slotOwner ⟨0, 0⟩ = .hook 0 ∧
      s.slotOwner ⟨0, 1⟩ = .hook 1 ∧ s.slotOwner ⟨0, 2⟩ = .hook 2 ∧ s.slotOwner ⟨0, 3⟩ = .carrySlot 3 ∧
      s.slotOwner ⟨0, 32⟩ = .carrySpare 3 ∧ (s.hook 0).occ = .holding 1 ∧ (s.hook 1).occ = .empty ∧
      (s.hook 2).occ = .stray ∧ (s.hook 3).occ = .awaitRehang 2 3 ∧ decodeTag (encodeTag 3) = some 3 ∧
      (s.ticket? 4).map Ticket.key = some .missing) ∧
    (let s := { ready .recovery with mc := { (ready .recovery).mc with scanBank := some 15 } }
     s.takesCabinet = true ∧ s.mc.scanBank = some 15 ∧ (15 : Byte).toNat = (15 : BankNo).val ∧
      s.unstaffed = true ∧ s.SubstLaw) :=
  ⟨by decide +kernel, by decide +kernel, by decide +kernel,
    ⟨by decide +kernel, by decide +kernel, by decide +kernel, by decide +kernel, by decide +kernel, by decide +kernel,
      substLaw_of (by decide +kernel), by decide +kernel⟩,
    by decide +kernel, by decide +kernel, by decide +kernel, by decide +kernel, substLaw_of (by decide +kernel)⟩

end Sys2Proof.Tests
end

