-- ==== Sys2Proof/Proofs/QuerySpace.lean ====
section
/-! PROOFS. QUERY_SPACE (R15): the refusals that the shared checks make, the space operand, the report of a space, and
the statement. -/

namespace Sys2Proof.Machine

/-! ## Refusals by the shared checks -/

/-- A request that may be asked is refused with the mode's code, whatever its fields. -/
theorem checked_refused_by_mode {w : Work} {p : Port} {k : ReqKind} {r : ResultCode} (hr : w.mayAsk p k = true)
    (hm : modeRefusal k w.mc.mode = some r) (owner : Option (Work → Answer)) :
    checked p k owner w = refuse r w := by
  simp [checked, hr, hm]

/-- A request refused for the mode is answered with the mode's code, whatever its fields (R175, R184). -/
theorem offer_refused_by_mode {s : State} {p : Port} {k : ReqKind} {r : ResultCode} (ht : s.takesRequest p = true)
    (hr : s.mayAsk p k = true) (hm : modeRefusal k s.mc.mode = some r) (body : List Byte) (tag : Byte)
    (owner : Option (Work → Answer)) :
    offer p body (serve p tag k owner) s = s.answered p k tag r .empty := by
  rw [offer_taken ht, serve, checked_refused_by_mode (w := Work.begin _) (by simpa using hr) (by simpa using hm),
    refuse]
  exact respond_quiet p k tag s r .empty (Work.begin_out _) (Work.begin_toState _)

/-- A served request with a field out of range is answered BAD_FIELD (R184). -/
theorem offer_bad_field {s : State} {p : Port} {k : ReqKind} (h : s.serves p k = true) (body : List Byte)
    (tag : Byte) : offer p body (serve p tag k none) s = s.answered p k tag .badField .empty := by
  obtain ⟨ht, hr, hm⟩ := State.serves_iff.mp h
  rw [offer_taken ht, serve, checked_none (w := Work.begin _) (by simpa using hr) (by simpa using hm), refuse]
  exact respond_quiet p k tag s .badField .empty (Work.begin_out _) (Work.begin_toState _)

/-- A served request whose owner accepts it in the state as it stands, with no pass or arbitration due, is answered and
changes nothing. -/
theorem offer_accept_unchanged {s : State} {p : Port} {k : ReqKind} (h : s.serves p k = true) (body : List Byte)
    (tag : Byte) {f : Work → Answer} {r : ResultCode} {pl : Payload}
    (hf : let w := Work.begin (s.updLink p fun l => { l with receiver := .hunting }); f w = accept r pl w) :
    offer p body (serve p tag k (some f)) s = s.answered p k tag r pl :=
  offer_accept h body tag (hf.trans (by rw [accept, Work.finish_untriggered _ rfl rfl])) rfl rfl

/-! ## The space operand -/

/-- An operand below 1024 names a space. -/
theorem space?_of_lt {x : BitVec 16} (h : x.toNat < 1024) : space? x = some ⟨x.toNat, h⟩ := by
  simp [space?, fin?, h]

/-- An operand of 1024 or more names none. -/
theorem space?_of_ge {x : BitVec 16} (h : 1024 ≤ x.toNat) : space? x = none := by
  simp [space?, fin?, Nat.not_lt.mpr h]

/-! ## When QUERY_SPACE is served -/

/-- QUERY_SPACE may be asked on every port: its kind is marked "any" (section 11.6.2). -/
theorem mayAsk_querySpace (s : State) (p : Port) : s.mayAsk p .querySpace = true := rfl

/-- QUERY_SPACE is served in every mode but SETUP (R175). -/
theorem modeRefusal_querySpace {m : Mode} (h : m ≠ .setup) : modeRefusal .querySpace m = none := by
  cases m with
  | setup => exact absurd rfl h
  | recovery | service => rfl

/-- QUERY_SPACE taken on a port outside SETUP passes the checks of role and mode. -/
theorem serves_querySpace {s : State} {p : Port} (ht : s.takesRequest p = true) (hm : s.mc.mode ≠ .setup) :
    s.serves p .querySpace = true :=
  State.serves_iff.mpr ⟨ht, mayAsk_querySpace s p, modeRefusal_querySpace hm⟩

/-- QUERY_SPACE is offered to its port with the owner that its operand calls for. -/
theorem exec_querySpace (s : State) (p : Port) (tag : Byte) (x : BitVec 16) :
    exec (.querySpace p tag x) s =
      .next (offer p (requestBody (.querySpace p tag x)) (serve p tag .querySpace ((space? x).map ownQuerySpace)) s) :=
  rfl

/-! ## The report of a space -/

/-- Nothing is reported after the Condition of an UNMAPPED space (R15). -/
theorem State.spaceReport_unmapped {s : State} {sp : SpaceNo} (h : s.spaceRec sp = .unmapped) :
    s.spaceReport sp = none := by
  simp [State.spaceReport, h]

/-- What is reported of a mapped space, by its zone and its lane (R15). -/
theorem State.spaceReport_mapped {s : State} {sp : SpaceNo} {z : ZoneNo} {zn : Zone} {l : Lane}
    (hs : s.spaceRec sp ≠ .unmapped) (hz : s.zoneOf? sp = some (z, zn)) (hl : s.laneOf? sp = some l) :
    s.spaceReport sp = some
      { ticket := (s.spaceRec sp).ticket?,
        claimedAs := ((s.spaceRec sp).ticket?.bind s.ticket?).bind fun t => t.claimOf? sp,
        zone := z, isOpen := zn.isOpen, cls := zn.cls, laneFront := l.front, position := sp.val - l.front.val,
        depth := zn.depth, quarter := zn.quarter sp, team := zn.preferredTeam sp, shuffle := l.shuffle } := by
  rw [State.spaceReport, hz, hl]
  split
  · next h => exact absurd h hs
  · next ez el _ => cases ez; cases el; rfl
  · next h => exact absurd rfl (h z zn l rfl)

/-- A served QUERY_SPACE of a space reports its record and its report, and changes nothing (R15). -/
theorem exec_querySpace_reports {s : State} {p : Port} (ht : s.takesRequest p = true) (hm : s.mc.mode ≠ .setup)
    (tag : Byte) {x : BitVec 16} (h : x.toNat < 1024) :
    let sp : SpaceNo := ⟨x.toNat, h⟩
    exec (.querySpace p tag x) s =
      .next (s.answered p .querySpace tag .ok (.space sp (s.spaceRec sp) (s.spaceReport sp))) := by
  intro sp
  rw [exec_querySpace, space?_of_lt h, Option.map_some]
  exact congrArg _ (offer_accept_unchanged (serves_querySpace ht hm) _ tag rfl)

end Sys2Proof.Machine

namespace Sys2Proof.Proofs

open Sys2Proof.Machine

/-- Settles O47: the checks of R184 refuse in SETUP and out of range, and otherwise the report is that of R15, which is
empty for an UNMAPPED space. -/
theorem querySpaceReports : Obligations.QuerySpaceReports := by
  intro s p tag x ht
  refine ⟨fun hm => ?setup, fun hm hx => ?outOfRange,
    fun hx hm => ⟨fun hu => ?unmapped, fun z zn l hs hz hl => ?mapped⟩⟩
  case setup =>
    rw [exec_querySpace, offer_refused_by_mode ht (mayAsk_querySpace s p) (by rw [hm]; rfl)]
  case outOfRange =>
    rw [exec_querySpace, space?_of_ge hx, Option.map_none, offer_bad_field (serves_querySpace ht hm)]
  case unmapped =>
    rw [exec_querySpace_reports ht hm tag hx, hu, State.spaceReport_unmapped hu]
  case mapped =>
    rw [exec_querySpace_reports ht hm tag hx, State.spaceReport_mapped hs hz hl]
    cases s.spaceRec _ <;> rfl

end Sys2Proof.Proofs
end

