-- ==== Sys2Proof/Proofs/TagClasses.lean ====
section
/-! PROOFS. The decode of a tag word (R65): the range of the syndrome, the class by syndrome and parity, the number that
each class takes, and the statement. -/

namespace Sys2Proof.Machine

/-! ## The range of the syndrome -/

/-- The exclusive-or of numbers of `k` bits is a number of `k` bits. -/
theorem foldl_xor_lt_two_pow {k : Nat} {l : List Nat} (hl : ∀ x ∈ l, x < 2 ^ k) {a : Nat} (ha : a < 2 ^ k) :
    l.foldl Nat.xor a < 2 ^ k :=
  List.foldlRecOn (motive := (· < 2 ^ k)) l Nat.xor ha fun _ hb x hx => Nat.xor_lt_two_pow hb (hl x hx)

/-- A set position of a tag word is one of 1 to 21. -/
theorem lt_of_mem_setPositions {w : BitVec 22} {i : Nat} (h : i ∈ setPositions w) : i < 22 :=
  (List.mem_range'_1.mp (List.mem_of_mem_filter h)).2

/-- The syndrome has five bits, as the position numbers have (R64). -/
theorem syndrome_lt (w : BitVec 22) : syndrome w < 2 ^ 5 :=
  foldl_xor_lt_two_pow (fun _ hi => (lt_of_mem_setPositions hi).trans (by decide)) (by decide)

/-! ## The class by syndrome and parity, row by row of the table of R65 -/

/-- A check bit stands at each power of two among the positions (R63). -/
theorem mem_checkPositions_iff {s : Nat} :
    s ∈ [1, 2, 4, 8, 16] ↔ s = 1 ∨ s = 2 ∨ s = 4 ∨ s = 8 ∨ s = 16 := by
  simp only [List.mem_cons, List.not_mem_nil, or_false]

theorem decodeClass_zero_good : decodeClass 0 true = .clean := rfl

theorem decodeClass_zero_bad : decodeClass 0 false = .parityBit := rfl

/-- Good parity under a syndrome that is not 0: an even number of misreads. -/
theorem decodeClass_pos_good {s : Nat} (h : 1 ≤ s) : decodeClass s true = .uncorrectable := by
  rw [decodeClass, if_neg (Nat.ne_of_gt h), if_pos rfl]

/-- Bad parity under a syndrome that is not 0 leaves the class to the position that the syndrome names. -/
theorem decodeClass_pos_bad {s : Nat} (h : 1 ≤ s) :
    decodeClass s false =
      if s ∈ [1, 2, 4, 8, 16] then .checkBit else if s ≤ 21 then .dataCorrected else .uncorrectable := by
  simp only [decodeClass, if_neg (Nat.ne_of_gt h), Bool.false_eq_true, if_false, mem_checkPositions_iff]

theorem decodeClass_check {s : Nat} (h : s ∈ [1, 2, 4, 8, 16]) : decodeClass s false = .checkBit := by
  have hpos : 1 ≤ s := by rw [mem_checkPositions_iff] at h; omega
  rw [decodeClass_pos_bad hpos, if_pos h]

theorem decodeClass_data {s : Nat} (hlo : 1 ≤ s) (hhi : s ≤ 21) (h : s ∉ [1, 2, 4, 8, 16]) :
    decodeClass s false = .dataCorrected := by
  rw [decodeClass_pos_bad hlo, if_neg h, if_pos hhi]

theorem decodeClass_beyond {s : Nat} (h : 22 ≤ s) : decodeClass s false = .uncorrectable := by
  have hcheck : s ∉ [1, 2, 4, 8, 16] := by rw [mem_checkPositions_iff]; omega
  rw [decodeClass_pos_bad (by omega), if_neg hcheck, if_neg (by omega)]

/-- The class of a word whose syndrome and parity are known. -/
theorem tagClass_of {w : BitVec 22} {s : Nat} {good : Bool} (hs : syndrome w = s) (hg : parityGood w = good) :
    tagClass w = decodeClass s good := by
  rw [tagClass, hs, hg]

/-! ## The number that each class takes from the word -/

section
variable {w : BitVec 22}

theorem decodeTag_of_clean (h : tagClass w = .clean) : decodeTag w = some (dataBits w) := by
  rw [decodeTag, h]

theorem decodeTag_of_parityBit (h : tagClass w = .parityBit) : decodeTag w = some (dataBits w) := by
  rw [decodeTag, h]

theorem decodeTag_of_checkBit (h : tagClass w = .checkBit) : decodeTag w = some (dataBits w) := by
  rw [decodeTag, h]

/-- The bit that the syndrome names is inverted before the data bits are taken. -/
theorem decodeTag_of_dataCorrected (h : tagClass w = .dataCorrected) :
    decodeTag w = some (dataBits (w ^^^ BitVec.twoPow 22 (syndrome w))) := by
  rw [decodeTag, h]

theorem decodeTag_of_uncorrectable (h : tagClass w = .uncorrectable) : decodeTag w = none := by
  rw [decodeTag, h]

end

end Sys2Proof.Machine

namespace Sys2Proof.Proofs

open Sys2Proof.Machine

/-- Settles O18: each row of the table of R65 fixes the class, and the class the number taken. -/
theorem tagClasses : Obligations.TagClasses := by
  intro w s good data
  refine ⟨Nat.le_of_lt_succ (syndrome_lt w), fun hs hg => ?clean, fun hs hg => ?parityBit, fun hs hg => ?checkBit,
    fun hlo hhi hs hg => ?dataCorrected, fun hs hg => ?beyond, fun hs hg => ?evenMisreads⟩
  case clean =>
    have hc : tagClass w = .clean := (tagClass_of hs hg).trans decodeClass_zero_good
    exact ⟨hc, decodeTag_of_clean hc⟩
  case parityBit =>
    have hc : tagClass w = .parityBit := (tagClass_of hs hg).trans decodeClass_zero_bad
    exact ⟨hc, decodeTag_of_parityBit hc⟩
  case checkBit =>
    have hc : tagClass w = .checkBit := (tagClass_of rfl hg).trans (decodeClass_check hs)
    exact ⟨hc, decodeTag_of_checkBit hc⟩
  case dataCorrected =>
    have hc : tagClass w = .dataCorrected := (tagClass_of rfl hg).trans (decodeClass_data (by omega) hhi hs)
    exact ⟨hc, decodeTag_of_dataCorrected hc⟩
  case beyond =>
    have hc : tagClass w = .uncorrectable := (tagClass_of rfl hg).trans (decodeClass_beyond hs)
    exact ⟨hc, decodeTag_of_uncorrectable hc⟩
  case evenMisreads =>
    have hc : tagClass w = .uncorrectable := (tagClass_of rfl hg).trans (decodeClass_pos_good hs)
    exact ⟨hc, decodeTag_of_uncorrectable hc⟩

end Sys2Proof.Proofs
end

