-- ==== Sys2Proof/Proofs/CabinetDiag.lean ====
section
/-! PROOFS. CABINET_DIAG (R95): the role and the modes it asks for, the bank operand, the report, and the statement. -/

namespace Sys2Proof.Machine

/-! ## When CABINET_DIAG is served -/

/-- A kind that asks for MAINT alone may be asked on a port whose Roles in force include it (section 11.6.2). -/
theorem mayAsk_of_maint {s : State} {p : Port} {k : ReqKind} (hk : k.roles = some (BitVec.twoPow 4 3))
    (hr : (s.mc.ports.get p).roles.getLsbD 3 = true) : s.mayAsk p k = true := by
  rw [State.mayAsk, hk]
  simp only [BitVec.and_twoPow, hr, if_true]
  rfl

/-- CABINET_DIAG may be asked on a port in the role MAINT. -/
theorem mayAsk_cabinetDiag {s : State} {p : Port} (hr : (s.mc.ports.get p).roles.getLsbD 3 = true) :
    s.mayAsk p .cabinetDiag = true :=
  mayAsk_of_maint rfl hr

/-- CABINET_DIAG is served in every mode but RECOVERY (R175). -/
theorem modeRefusal_cabinetDiag {m : Mode} (h : m ≠ .recovery) : modeRefusal .cabinetDiag m = none := by
  cases m with
  | recovery => exact absurd rfl h
  | setup | service => rfl

/-- CABINET_DIAG taken on a MAINT port outside RECOVERY passes the checks of role and mode. -/
theorem serves_cabinetDiag {s : State} {p : Port} (ht : s.takesRequest p = true)
    (hr : (s.mc.ports.get p).roles.getLsbD 3 = true) (hm : s.mc.mode ≠ .recovery) :
    s.serves p .cabinetDiag = true :=
  State.serves_iff.mpr ⟨ht, mayAsk_cabinetDiag hr, modeRefusal_cabinetDiag hm⟩

/-- CABINET_DIAG is offered to its port with the owner that its operand calls for. -/
theorem exec_cabinetDiag (s : State) (p : Port) (tag x : Byte) :
    exec (.cabinetDiag p tag x) s =
      .next (offer p (requestBody (.cabinetDiag p tag x))
        (serve p tag .cabinetDiag ((bank? x).map ownCabinetDiag)) s) :=
  rfl

/-! ## The bank operand -/

/-- An operand below 16 names a bank. -/
theorem bank?_of_lt {x : Byte} (h : x.toNat < 16) : bank? x = some ⟨x.toNat, h⟩ := by
  simp [bank?, fin?, h]

/-- An operand of 16 or more names none. -/
theorem bank?_of_ge {x : Byte} (h : 16 ≤ x.toNat) : bank? x = none := by
  simp [bank?, fin?, Nat.not_lt.mpr h]

/-! ## The report of a bank -/

/-- A served CABINET_DIAG of a bank reports the latch, the bank's two entries and its 32 hooks, and changes nothing
(R95). -/
theorem exec_cabinetDiag_reports {s : State} {p : Port} (h : s.serves p .cabinetDiag = true) (tag : Byte) {x : Byte}
    {b : BankNo} (hb : bank? x = some b) :
    exec (.cabinetDiag p tag x) s =
      .next (s.answered p .cabinetDiag tag .ok
        (.diag b s.kci.latch [s.entry b 0, s.entry b 1] ((List.finRange 32).map fun q => s.hook (hookAt b q)))) := by
  rw [exec_cabinetDiag, hb, Option.map_some]
  exact congrArg _ (offer_accept_unchanged h _ tag rfl)

end Sys2Proof.Machine

namespace Sys2Proof.Proofs

open Sys2Proof.Machine

/-- Settles O45: the checks of R184 refuse in RECOVERY and out of range, and otherwise the report is that of R95. -/
theorem cabinetDiagReports : Obligations.CabinetDiagReports := by
  intro s p tag x ht hr
  split
  case isTrue hm =>
    have hrefused : modeRefusal .cabinetDiag s.mc.mode = some .notReady := by rw [hm]; rfl
    rw [exec_cabinetDiag, offer_refused_by_mode ht (mayAsk_cabinetDiag hr) hrefused]
  case isFalse hm =>
    have hserved : s.serves p .cabinetDiag = true := serves_cabinetDiag ht hr hm
    split
    case isTrue hx => exact exec_cabinetDiag_reports hserved tag (bank?_of_lt hx)
    case isFalse hx =>
      rw [exec_cabinetDiag, bank?_of_ge (Nat.le_of_not_lt hx), Option.map_none, offer_bad_field hserved]

end Sys2Proof.Proofs
end

