-- ==== Sys2Proof/Proofs/ClearAlert.lean ====
section
/-! PROOFS. CLEAR_ALERT (R165): the set operand, what is cleared of a flag record and of the Alert Unit, the attention
lines evaluated again (R166), and the statement. -/

namespace Sys2Proof.Machine

/-! ## The set operand -/

/-- An operand below 2048 is a set of the eleven flags. -/
theorem alertSet?_of_lt {x : BitVec 16} (h : x.toNat < 2048) : alertSet? x = some (x.setWidth 11) := if_pos h

/-- An operand of 2048 or more names a flag outside the eleven. -/
theorem alertSet?_of_ge {x : BitVec 16} (h : 2048 ≤ x.toNat) : alertSet? x = none := if_neg (Nat.not_lt.mpr h)

/-- The set names the flags that the operand's bits name. -/
theorem getLsbD_setWidth_flag (x : BitVec 16) (i : Fin 11) : (x.setWidth 11).getLsbD i.val = x.getLsbD i.val := by
  rw [BitVec.getLsbD_setWidth, decide_eq_true i.isLt, Bool.true_and]

/-! ## The record of a flag named -/

/-- The place of a flag in the table of R161 tells its kind. -/
theorem isConditionIdx_idx (f : AlertFlag) : isConditionIdx f.idx = f.isCondition := by
  cases f <;> rfl

/-- A flag already clear is left as it is. -/
theorem AlertRec.clear_of_not_set {r : AlertRec} (h : r.set = false) (cond : Bool) : r.clear cond = r := by
  simp [AlertRec.clear, h]

/-- A condition flag that is set counts from 0 again, and keeps its subject. -/
theorem AlertRec.clear_condition {r : AlertRec} (h : r.set = true) : r.clear true = { r with count := 0 } := by
  simp [AlertRec.clear, h]

/-- An event flag that is set is cleared. -/
theorem AlertRec.clear_event {r : AlertRec} (h : r.set = true) : r.clear false = ⟨false, none, 0⟩ := by
  simp [AlertRec.clear, h, clearAlertRec]

/-! ## The lines and the flags of a set -/

/-- The lines evaluated again are those that R166 asks for. -/
theorem Work.evalLines_attentionLaw (w : Work) : w.evalLines.AttentionLaw :=
  fun _ => Table.get_map _ _ _

@[simp] theorem Work.evalLines_enables (w : Work) : w.evalLines.au.enables = w.au.enables := rfl

@[simp] theorem Work.evalLines_alert (w : Work) (f : AlertFlag) : w.evalLines.alert f = w.alert f := rfl

/-- Each flag of the set is cleared, and each other record is left as it is. -/
theorem Work.clearAlerts_alert (m : BitVec 11) (w : Work) (f : AlertFlag) :
    (w.clearAlerts m).alert f =
      if m.getLsbD f.idx.val then (w.alert f).clear f.isCondition else w.alert f := by
  rw [Work.clearAlerts, Work.evalLines_alert, State.alert, Table.get_ofFn, isConditionIdx_idx]
  rfl

theorem Work.clearAlerts_enables (m : BitVec 11) (w : Work) : (w.clearAlerts m).au.enables = w.au.enables :=
  Work.evalLines_enables _

theorem Work.clearAlerts_attentionLaw (m : BitVec 11) (w : Work) : (w.clearAlerts m).AttentionLaw :=
  Work.evalLines_attentionLaw _

/-! ## CLEAR_ALERT taken -/

/-- CLEAR_ALERT is offered to its port with the owner that its operand calls for. -/
theorem exec_clearAlert (s : State) (p : Port) (tag : Byte) (x : BitVec 16) :
    exec (.clearAlert p tag x) s =
      .next (offer p (requestBody (.clearAlert p tag x))
        (serve p tag .clearAlert ((alertSet? x).map ownClearAlert)) s) :=
  rfl

/-- The state with the flags of a set cleared (R165). -/
def State.alertsCleared (m : BitVec 11) (s : State) : State := ((Work.begin s).clearAlerts m).toState

/-- Nothing but the Alert Unit changes. -/
theorem State.alertsCleared_frame (m : BitVec 11) (s : State) : { s.alertsCleared m with au := s.au } = s := rfl

/-- A served CLEAR_ALERT of a set clears its flags, and reports the records as they stood with the flags set before and
after. -/
theorem exec_clearAlert_clears {s : State} {p : Port} (h : s.serves p .clearAlert = true) (tag : Byte) {x : BitVec 16}
    {m : BitVec 11} (hm : alertSet? x = some m) :
    exec (.clearAlert p tag x) s =
      .next ((s.alertsCleared m).answered p .clearAlert tag .ok
        (.alerts s.au.setMask (s.alertsCleared m).au.setMask s.au.flags.list)) := by
  rw [exec_clearAlert, hm, Option.map_some]
  have howner (w : Work) (hp : w.passDue = false) (ha : w.arbDue = false) :
      ownClearAlert m w = ⟨w.clearAlerts m, .ok, .alerts w.au.setMask (w.clearAlerts m).au.setMask w.au.flags.list⟩ :=
    congrArg (Answer.mk · _ _) (Work.finish_untriggered _ hp ha)
  exact congrArg _ (offer_accept h _ tag (howner _ rfl rfl) rfl rfl)

/-- What a set leaves of each record, by the bits of the operand. -/
theorem State.alertsCleared_alert (x : BitVec 16) (s : State) (f : AlertFlag) :
    (s.alertsCleared (x.setWidth 11)).alert f =
      if x.getLsbD f.idx.val = true ∧ (s.alert f).set = true then
        (if f.isCondition then { s.alert f with count := 0 } else ⟨false, none, 0⟩)
      else s.alert f := by
  rw [State.alertsCleared, Work.clearAlerts_alert, getLsbD_setWidth_flag, Work.begin_toState]
  by_cases hx : x.getLsbD f.idx.val = true
  case neg => rw [if_neg hx, if_neg fun h => hx h.1]
  case pos =>
    rw [if_pos hx]
    cases hs : (s.alert f).set with
    | false => rw [AlertRec.clear_of_not_set hs, if_neg (by simp)]
    | true =>
      rw [if_pos ⟨hx, rfl⟩]
      cases f.isCondition with
      | false => exact AlertRec.clear_event hs
      | true => exact AlertRec.clear_condition hs

end Sys2Proof.Machine

namespace Sys2Proof.Proofs

open Sys2Proof.Machine

/-- Settles O51: a set outside the eleven is refused by the checks of R184, and otherwise only the flags named are
cleared. -/
theorem clearAlertClearsTheFlagsNamed : Obligations.ClearAlertClearsTheFlagsNamed := by
  intro s p tag x hserved
  refine ⟨fun hx => ?outOfRange, fun hx => ?cleared⟩
  case outOfRange =>
    rw [exec_clearAlert, alertSet?_of_ge hx, Option.map_none, offer_bad_field hserved]
  case cleared =>
    exact ⟨_, exec_clearAlert_clears hserved tag (alertSet?_of_lt hx),
      congrArg (State.answered p .clearAlert tag .ok _) (State.alertsCleared_frame _ s),
      State.alertsCleared_alert x s, Work.clearAlerts_enables _ (Work.begin s),
      Work.clearAlerts_attentionLaw _ (Work.begin s)⟩

end Sys2Proof.Proofs
end

