-- ==== Sys2Proof/Proofs/ModeCheck.lean ====
section
/-! PROOFS. The mode check (R175): the table of kinds and modes, the form that every request command has, and the
statement. -/

namespace Sys2Proof.Machine

/-! ## The table of R175 -/

/-- The refusal of a kind in a mode, by the rows of the table: the kinds always served, the queries, the setup kinds,
the cabinet kinds with TUNE, and every other kind. -/
theorem modeRefusal_eq (k : ReqKind) (m : Mode) :
    modeRefusal k m =
      if k ∈ [.status, .clearAlert] then none
      else if k ∈ [.queryTicket, .querySpace, .queryRunner] then
        (if m = .setup then some .notReady else none)
      else if k ∈ [.configure, .commitSetup] then
        (if m = .setup then none else if m = .recovery then some .notReady else some .badState)
      else if k ∈ [.tune, .substitute, .retire, .restore, .cabinetDiag] then
        (if m = .recovery then some .notReady else none)
      else if m = .service then none else some .notReady := by
  cases k with
  | status | clearAlert => rfl
  | queryTicket | querySpace | queryRunner => cases m <;> rfl
  | configure | commitSetup => cases m <;> rfl
  | tune | substitute | retire | restore | cabinetDiag => cases m <;> rfl
  | _ => cases m <;> rfl

/-! ## The form of a request command -/

/-- Every request command offers its frame to its port, to be served as its kind with the owner that its operands call
for. -/
theorem exec_request {i : Instr} {p : Port} {tag : Byte} {k : ReqKind} (h : i.request? = some (p, tag, k)) :
    ∃ owner, ∀ s, exec i s = .next (offer p (requestBody i) (serve p tag k owner) s) := by
  cases i with
  | issue | amend | queryTicketByNumber | queryTicketByGuest | parked | recallByNumber | recallByGuest | cancel
  | dispatchMask | runnerDutyOn | runnerDutyOff | queryRunner | reopen | staged | handover | returnCar | bayHoldSet
  | bayHoldClear | keyClaim | releaseHook | substitute | retire | restore | cabinetDiag | zoneStateOpen
  | zoneStateClose | spaceServiceOut | spaceServiceReturn | querySpace | configureZone | configureZoneRemove
  | configurePort | configureParams | tune | commitSetup | coldStart | clearAlert | status =>
    cases h
    exact ⟨_, fun _ => rfl⟩
  | powerOn | resetLine | serviceTick | minuteEvent | releaseLapse | removalWindowExpiry | runOverdue | runLost
  | bankScanTimeout | hung | lifted | sensorFault | bankState | cabinetFrameReceived | cabinetFrameGap
  | cabinetCommandSent | stationFrameReceived | stationFrameGap | lineBreak | frameSent | requestBadKind
  | lineReturnHigh | stationStartByte | stationLengthReject | cabinetStartByte | cabinetLengthReject
  | resetLineRelease | powerLoss => cases h

/-- A request refused for the mode is answered with the mode's code before any field is checked, and changes nothing
(R175). -/
theorem exec_refused_by_mode {i : Instr} {p : Port} {tag : Byte} {k : ReqKind} {s : State} {r : ResultCode}
    (hi : i.request? = some (p, tag, k)) (ht : s.takesRequest p = true) (hr : s.mayAsk p k = true)
    (hm : modeRefusal k s.mc.mode = some r) : exec i s = .next (s.answered p k tag r .empty) := by
  obtain ⟨owner, hexec⟩ := exec_request hi
  rw [hexec, offer_refused_by_mode ht hr hm]

end Sys2Proof.Machine

namespace Sys2Proof.Proofs

open Sys2Proof.Machine

/-- Settles O16: the refusal of the table is the model's mode check, which comes after the check of role and before the
field checks. -/
theorem modeCheck : Obligations.ModeCheck := by
  intro i p tag k s hi ht hr refusal
  have htable : modeRefusal k s.mc.mode = refusal := modeRefusal_eq k s.mc.mode
  exact ⟨fun r hrefused => exec_refused_by_mode hi ht hr (htable.trans hrefused),
    fun hserved => State.serves_iff.mpr ⟨ht, hr, htable.trans hserved⟩⟩

end Sys2Proof.Proofs
end

