-- ==== Sys2Proof/Proofs/Status.lean ====
section
/-! PROOFS. STATUS (R180): changes of one link in either order, when STATUS is served, the report as its owner reads it,
and the statement. -/

namespace Sys2Proof.Machine

/-! ## Changes of one link -/

/-- The link just changed. -/
@[simp] theorem State.updLink_link (s : State) (p : Port) (f : StationLink → StationLink) :
    (s.updLink p f).slu.get p = f (s.slu.get p) :=
  Table.get_set_self _ _ _

/-- Two changes of one link are one. -/
theorem State.updLink_updLink (s : State) (p : Port) (f g : StationLink → StationLink) :
    (s.updLink p f).updLink p g = s.updLink p fun l => g (f l) := by
  simp only [State.updLink, Table.get_set_self, Table.set_set]

/-! ## When STATUS is served -/

/-- STATUS taken on a port passes the checks of role and mode: its kind is marked "any" (section 11.6.2), and it is
served in every mode (R175). -/
theorem serves_status {s : State} {p : Port} (ht : s.takesRequest p = true) : s.serves p .status = true :=
  State.serves_iff.mpr ⟨ht, rfl, rfl⟩

/-- STATUS is offered to its port with its owner: it carries no field. -/
theorem exec_status (s : State) (p : Port) (tag : Byte) :
    exec (.status p tag) s =
      .next (offer p (requestBody (.status p tag)) (serve p tag .status (some (ownStatus p))) s) :=
  rfl

/-! ## The report -/

/-- A state whose NoticeOverflow on a port is cleared (R180). -/
def State.overflowCleared (p : Port) (s : State) : State := s.updLink p fun l => { l with overflow := false }

/-- The report reads nothing of a link but its NoticeOverflow. -/
theorem State.statusPayload_updLink (s : State) (p : Port) {f : StationLink → StationLink}
    (hf : (f (s.slu.get p)).overflow = (s.slu.get p).overflow) :
    (s.updLink p f).statusPayload p = s.statusPayload p :=
  congrArg (Payload.status _ _ _ _ _ _ _ _ _ _ _ _) ((congrArg _ (s.updLink_link p f)).trans hf)

/-- In an event with no pass or arbitration due, STATUS reports the state as it stands and clears NoticeOverflow. -/
theorem ownStatus_untriggered (p : Port) (w : Work) (hp : w.passDue = false) (ha : w.arbDue = false) :
    ownStatus p w = ⟨{ w with toState := w.overflowCleared p }, .ok, w.statusPayload p⟩ :=
  congrArg (Answer.mk · _ _) (Work.finish_untriggered _ hp ha)

/-- STATUS taken is answered with the report, in the state whose NoticeOverflow is cleared (R180). -/
theorem exec_status_reports {s : State} {p : Port} (ht : s.takesRequest p = true) (tag : Byte) :
    exec (.status p tag) s =
      .next ((s.overflowCleared p).answered p .status tag .ok (s.statusPayload p)) := by
  have hreport : (s.updLink p fun l => { l with receiver := .hunting }).statusPayload p = s.statusPayload p :=
    s.statusPayload_updLink p rfl
  have hcommute : (s.updLink p fun l => { l with receiver := .hunting }).overflowCleared p =
      (s.overflowCleared p).updLink p fun l => { l with receiver := .hunting } := by
    simp only [State.overflowCleared, State.updLink_updLink]
  rw [exec_status, ← hreport]
  exact congrArg _ (offer_accept (serves_status ht) _ tag (ownStatus_untriggered p _ rfl rfl) rfl hcommute)

end Sys2Proof.Machine

namespace Sys2Proof.Proofs

open Sys2Proof.Machine

/-- Settles O52: STATUS is served whenever it is taken, and its owner reads the state before it clears
NoticeOverflow. -/
theorem statusReports : Obligations.StatusReports := by
  intro s p tag ht
  exact exec_status_reports ht tag

end Sys2Proof.Proofs
end
